-- ==== Sys2Proof/Word.lean ====
section
/-!
DEFINITION. The plain data that every other file speaks of: bytes, lanes, bit-times, cells, colours, the values a
slot shows, and the shape of an addressed store.
-/
namespace Sys2Proof

/-- One byte of a frame, of a reply or of the configuration image. -/
abbrev Byte := BitVec 8

/-- A palette index (00_scope.md, "Glyphs and colours"). -/
abbrev Colour := BitVec 4

/-- The two lanes (chapter 1). -/
inductive Lane where
  | a
  | b
deriving DecidableEq, Repr

/-- One bit-time of a lane: whether the line is high in its first half and in its second half (R162). -/
structure BitTime where
  first : Bool
  second : Bool
deriving DecidableEq, Repr

/-- The attributes of a cell, of a run and of a tape entry (R98, 11.2). -/
structure Attrs where
  underline : Bool
  dim : Bool
  blink : Bool
  inverse : Bool
deriving DecidableEq, Repr

/-- One cell record or save record (R98). -/
structure Cell where
  glyph : BitVec 9
  fg : Colour
  bg : Colour
  attrs : Attrs
deriving DecidableEq, Repr

/-- An item's value: numeric with its scale, or 1 to 12 glyph codes (3.3, R56). -/
inductive Value where
  | numeric (scale : Nat) (raw : BitVec 32)
  | text (glyphs : List Byte)
deriving DecidableEq, Repr

/-- A sparse addressed store: (key, value) pairs. Its canonical form and its operations are in
`Machine/Store.lean`. -/
abbrev Store (β : Type) := List (Nat × β)

end Sys2Proof
end

