-- ==== Sys2Proof/Config.lean ====
section
/-!
DEFINITION. The configuration in force (chapter 10.2), the DEFAULT image (R155), the fixed sizes of the
part (00_scope.md "Key Figures"), and the values that the spec leaves open.
-/
namespace Sys2Proof

/-- The lane rates of R1. -/
inductive LaneRate where
  | mbit4
  | mbit8
deriving DecidableEq, Repr

/-- The eleven colour roles, in the order of image bytes 36 to 46 (11.4). -/
structure Roles where
  up : Colour
  down : Colour
  flashUp : Colour
  flashDown : Colour
  fade1 : Colour
  fade2 : Colour
  fade3 : Colour
  stale : Colour
  overflow : Colour
  crawlFg : Colour
  crawlBg : Colour
deriving DecidableEq, Repr

/-- The fields of a configuration in force (R155, R156). Station 63 is none, group 0 to 14; `palette`
holds 16 entries of 4 bits each of red, green and blue. -/
structure Configuration where
  station : Nat
  group : Nat
  rate : LaneRate
  palette : List (BitVec 12)
  roles : Roles
  hold : Nat
  fade : Nat
  blink : Nat
  staleUnits : Nat
  interval : Nat
  crawlRow : Option Nat
  tilePosition : Nat
  tileCount : Nat
  crawlStep : Nat
deriving DecidableEq, Repr

/-- The DEFAULT image (table of R155). -/
def Configuration.default : Configuration where
  station := 63
  group := 0
  rate := .mbit4
  palette := [0x000, 0x008, 0x080, 0x088, 0x800, 0x808, 0x880, 0xCCC,
              0x888, 0x00F, 0x0F0, 0x0FF, 0xF00, 0xF0F, 0xFF0, 0xFFF]
  roles := ⟨10, 12, 2, 4, 8, 1, 5, 6, 14, 15, 1⟩
  hold := 30
  fade := 8
  blink := 60
  staleUnits := 16
  interval := 30
  crawlRow := none
  tilePosition := 0
  tileCount := 1
  crawlStep := 1

namespace Config

/-- Places in the frame queue (R7). -/
abbrev frameQueueSize : Nat := 8

/-- Places in the transmit queue (R9). -/
abbrev transmitQueueSize : Nat := 4

/-- Save records of the overlay unit (R113). -/
abbrev saveAreaSize : Nat := 2048

/-- Deepest overlay stack (R113). -/
abbrev maxDepth : Nat := 8

/-- The cells of the screen, 48 rows of 128 (R98). -/
abbrev cellCount : Nat := 6144

/-- The longest reception, 256 bytes in bit-times (R4). -/
abbrev receptionTimes : Nat := 2048

/-- The top of every statistics counter (R148). -/
abbrev counterTop : Nat := 4294967295

/-- DESIGN CHOICE, log 5 (safe). FREE VALUE: the byte that the SLOT report carries as last source of a
slot that has no shown value (11.3, slot report byte 16). The spec gives such a slot no last source. It has no
body: nothing can be proved of it. -/
opaque freeLastSource : Nat → Byte

/-- DESIGN CHOICE, log 10 (safe). FREE VALUE: the rank of a slot among the matches of one item, by the draw's
number and the slot number. The spec does not say in which order the matches of an item take their arrival stamps
(R48, R50). No body: nothing can be proved of it. -/
opaque freeRank : Nat → Nat → Nat

/-- DESIGN CHOICE, log 11 (safe). FREE VALUE: of two blocks that one event reaches, whether the first-named takes
it first, by the draw's number. The spec does not say (R33, R101, R153). No body: nothing can be proved of it. -/
opaque freeFirst : Nat → Bool

/-- DESIGN CHOICE, log 15 (safe). FREE VALUE: how many cells of the display frame the scan engine has read when a
write unit ends, by the draw's number. The spec does not time the reading against the writers (R102, R109). No body:
nothing can be proved of it. -/
opaque freeScan : Nat → Nat

/-- DESIGN CHOICE, log 15 (safe). FREE VALUE: after how many of the writes that a write unit makes to one cell, one
after the other, the scan engine reads that cell, when it reads it while the unit is being applied; by the draw's number
and the cell (R102, R109). The number counts modulo the places that there are. No body: nothing can be proved of it. -/
opaque freeSeen : Nat → Nat → Nat

/-- DESIGN CHOICE, log 19 (safe). FREE VALUE: whether a jam begins with the line high, by the number of the draw, one
for each COLLISION. The spec does not say, and relates two jams nowhere (R162). No body: nothing can be proved of it. -/
opaque freeJamLevel : Nat → Bool

end Config

end Sys2Proof
end

