-- ==== Sys2Proof/Syntax.lean ====
section
/-!
DEFINITION. The commands: one constructor for each row of spec/opcode_table.json. The table gives no
operands; each operand here is what the row's rule lets vary from outside (DEDUCED, log 6).
-/
namespace Sys2Proof

/-- One command: one indivisible step of the part (95_what_each_step_holds.md). -/
inductive Instr where
  /-- CARRIER_ARRIVAL (R1): carrier of another station appears on a lane. -/
  | carrierArrival (lane : Lane)
  /-- FRAME_END (R3): carrier drops; the bit-times received, from the carrier arrival to the last transition
  (R162): those of the complete bytes, and those after the last complete byte. -/
  | frameEnd (lane : Lane) (times rest : List BitTime)
  /-- JABBER_CUTOFF (R4): carrier lasts beyond 256 bytes. -/
  | jabberCutoff (lane : Lane)
  /-- GAP_EXPIRY (R13). -/
  | gapExpiry (lane : Lane)
  /-- TRANSMIT_COMPLETE (R14). -/
  | transmitComplete (lane : Lane)
  /-- HOLD_GAP_EXPIRY (R16). -/
  | holdGapExpiry (lane : Lane)
  /-- COLLISION (R14). -/
  | collision (lane : Lane)
  /-- JAM_END (R14). -/
  | jamEnd (lane : Lane)
  /-- BACKOFF_EXPIRY (R15). -/
  | backoffExpiry (lane : Lane)
  /-- QUOTE (R47): the dispatcher takes a QUOTE frame. -/
  | quote
  /-- PRESENCE (R29). -/
  | presence
  /-- UNUSABLE_FRAME (R30): a frame of unknown kind or of kind REPLY is taken. -/
  | unusableFrame
  /-- BIND (R43): a LAYOUT BIND operation. -/
  | bind
  /-- UNBIND (R45): a LAYOUT UNBIND operation. -/
  | unbind
  /-- LEVEL (R46): a LAYOUT LEVEL operation. -/
  | level
  /-- BIND_FILL (R44): the text writer's BIND fill. -/
  | bindFill
  /-- PAINT_BASE (R105). -/
  | paintBase
  /-- PAINT_TOP (R105). -/
  | paintTop
  /-- BASE_RUN (R106). -/
  | baseRun
  /-- TOP_RUN (R107). -/
  | topRun
  /-- OPEN (R115). -/
  | overlayOpen
  /-- CLOSE (R117). -/
  | overlayClose
  /-- CLOSE_ALL (R118). -/
  | overlayCloseAll
  /-- OPEN_UNIT (R116). -/
  | openUnit
  /-- CLOSE_UNIT (R117). -/
  | closeUnit
  /-- CLOSE_ALL_UNIT (R118). -/
  | closeAllUnit
  /-- ORPHAN_CLOSE (R122). -/
  | orphanClose
  /-- CRAWL (R136). -/
  | crawl
  /-- BEACON (R132). -/
  | beacon
  /-- STATUS (R146). -/
  | status
  /-- CAPTURE (R149). -/
  | capture
  /-- COUNTERS (R150). -/
  | counters
  /-- SLOT (R147). -/
  | slotQuery
  /-- RESTART (R151), and whether the reference oscillator is running when the query is taken (R158). -/
  | restart (referenceRunning : Bool)
  /-- BAD_REQUEST (R143). -/
  | badRequest
  /-- FRAME_START (R108). -/
  | frameStart
  /-- SILENCE_EVENT (R32) of a station. -/
  | silenceEvent (station : Nat)
  /-- BEACON_LAPSE (R131) of a station. -/
  | beaconLapse (station : Nat)
  /-- HIGHLIGHT_MOVE (R93) of a slot. -/
  | highlightMove (slot : Nat)
  /-- CRAWL_STEP (R138). -/
  | crawlStep
  /-- BEACON_DUE (R128). -/
  | beaconDue
  /-- ACTIVE_START (R109). -/
  | activeStart
  /-- PAINT_COMPLETION (R81). -/
  | paintCompletion
  /-- RESTYLE_COMPLETION (R86). -/
  | restyleCompletion
  /-- CRAWL_REPAINT (R141). -/
  | crawlRepaint
  /-- POWER_ON (R152): the power-on detector asserts. -/
  | powerOn
  /-- RESET_ASSERT (R152): nRST is taken low. -/
  | resetAssert
  /-- HELD_END (R152): the power-on detector and nRST are both released; whether nCOLD is low then, and
  whether the reference oscillator is running then (R158). -/
  | heldEnd (coldLow : Bool) (referenceRunning : Bool)
  /-- LOADING_COMPLETE (R155): the 64 bytes read from the configuration memory. -/
  | loadingComplete (image : List Byte)
  /-- CLEARING_COMPLETE (R153). -/
  | clearingComplete
  /-- UNWINDING (R124). -/
  | unwinding
  /-- REFERENCE_STOP (R158). -/
  | referenceStop
  /-- CARRIER_DROP (R4): carrier that the receive side is ignoring drops. -/
  | carrierDrop (lane : Lane)
deriving DecidableEq, Repr

end Sys2Proof
end

