-- ==== Sys2Proof/Machine/State.lean ====
section
/-!
DEFINITION. Everything the spec gives the painter to hold, as plain data, block by block (00_scope.md
"Functional Overview"), and the machine right after power-on.
-/
namespace Sys2Proof.Machine

/-! ## Lane ports and queues (chapter 1) -/

/-- The receive side of a lane port (R1, R4). -/
inductive RxState where
  /-- The port is in SEND, or the painter is not RUNNING. -/
  | closed
  /-- A carrier arrival opens a reception. -/
  | ready
  /-- A reception is open. -/
  | receiving
  /-- Carrier is ignored until it drops. -/
  | ignoring
deriving DecidableEq, Repr

/-- The transmit state machine of a lane port (1.6). SEND is its last three phases but BACKOFF. -/
inductive TxState where
  | idle
  | defer
  /-- GAP, timing this many bit-times (R13). -/
  | gap (bitTimes : Nat)
  /-- SEND, transmitting these bytes: the frame as it stood when the port began it (R11, R14). -/
  | sending (bytes : List Byte)
  /-- SEND, driving 32 bit-times of jam; `giveUp` when the frame was abandoned (R14), `high` when the jam began with
  the line high (R162; a free value drawn at the collision, log 19). -/
  | jam (giveUp : Bool) (high : Bool)
  /-- SEND, in the 8 bit-time burst-hold gap (R16). -/
  | holdGap
  /-- BACKOFF, waiting this many slots of 64 bit-times (R15). -/
  | backoff (slots : Nat)
deriving DecidableEq, Repr

/-- One lane port. -/
structure Port where
  rx : RxState
  /-- Carrier of other stations is on the lane. -/
  carrier : Bool
  tx : TxState
  /-- The frame in hand, by its sequence (R13). -/
  hand : Option (BitVec 16)
  /-- Attempt count (R14). -/
  attempts : Nat
  /-- Hold count (R16). -/
  hold : Nat
deriving DecidableEq, Repr

/-- An entry of the frame queue: all bytes from header to CRC, and the arrival lane (1.4). -/
structure RxFrame where
  bytes : List Byte
  lane : Lane
deriving DecidableEq, Repr

/-- The kinds that a painter sends (1.2). -/
inductive TxKind where
  | beacon
  | reply
deriving DecidableEq, Repr

/-- A frame's send state for one lane (1.5). -/
inductive SendState where
  | waiting
  | sent
  | abandoned
deriving DecidableEq, Repr

/-- A frame of the transmit queue (R9, R10). -/
structure TxFrame where
  kind : TxKind
  group : Nat
  dest : Nat
  seq : BitVec 16
  restart : Bool
  payload : List Byte
  sendA : SendState
  sendB : SendState
deriving DecidableEq, Repr

/-- The transmit queue, the sequence counter and the count of frames queued since the last cold reset,
which stops at 32 (R9, R10). -/
structure TxQueue where
  frames : List TxFrame
  seq : BitVec 16
  queued : Nat
deriving DecidableEq, Repr

/-! ## Peer table (chapter 2) -/

/-- Liveness of a peer entry (2.1). -/
inductive PeerState where
  | unheard
  | live
  | silent
deriving DecidableEq, Repr

/-- One peer entry (table of 2.1). Bit `i` of `window` is the flag of the sequence `i` behind `high`.
`silenceDue` and `lapseDue` are the silence event and the lapse signal that a frame start raised and that
have not been taken yet (DESIGN CHOICE, log 9, safe). -/
structure PeerEntry where
  state : PeerState
  high : BitVec 16
  window : BitVec 32
  /-- The restart run is open. -/
  run : Bool
  silenceAge : Nat
  ageA : Nat
  ageB : Nat
  painter : Bool
  beaconGroup : Nat
  beaconAge : Nat
  silenceDue : Bool
  lapseDue : Bool
deriving DecidableEq, Repr

/-! ## Field table (chapter 3) -/

/-- A slot's key (3.1); source 63 is ANY. -/
structure SlotKey where
  source : Nat
  instrument : Nat
  field : Nat
deriving DecidableEq, Repr

/-- A slot's placement (3.1). -/
structure Placement where
  row : Nat
  col : Nat
  width : Nat
deriving DecidableEq, Repr

/-- The five kinds of format (3.1). -/
inductive FormatKind where
  | decimal
  | fraction
  | size
  | change
  | text
deriving DecidableEq, Repr

/-- A slot's format: kind, places d, denominator exponent k, half-mark H, grouping G (3.1). -/
structure Format where
  kind : FormatKind
  places : Nat
  expo : Nat
  half : Bool
  group : Bool
deriving DecidableEq, Repr

/-- Colour rules (3.1). -/
inductive ColourRule where
  | plain
  | tick
  | sign
deriving DecidableEq, Repr

/-- A slot's own colours (3.1). -/
structure Base where
  fg : Colour
  bg : Colour
  attrs : Attrs
deriving DecidableEq, Repr

/-- The value most recently painted and its last source (3.1). -/
structure Shown where
  value : Value
  source : Nat
deriving DecidableEq, Repr

/-- The newest value not yet painted (3.1). -/
structure Pending where
  value : Value
  source : Nat
  stamp : BitVec 32
deriving DecidableEq, Repr

/-- Direction of the last tick (3.1). -/
inductive Direction where
  | none
  | up
  | down
deriving DecidableEq, Repr

/-- Highlight stages (3.1). -/
inductive Stage where
  | none
  | flash
  | fade1
  | fade2
  | fade3
deriving DecidableEq, Repr

/-- A slot's highlight; `flashUp` is the flash direction UP (3.1). -/
structure Highlight where
  stage : Stage
  remaining : Nat
  flashUp : Bool
deriving DecidableEq, Repr

/-- One slot record (3.1). -/
structure Slot where
  bound : Bool
  generation : BitVec 8
  key : SlotKey
  place : Placement
  format : Format
  rule : ColourRule
  priority : Nat
  base : Base
  shown : Option Shown
  direction : Direction
  highlight : Highlight
  stale : Bool
  overflow : Bool
  /-- Restyle-pending. -/
  restyle : Bool
  pending : Option Pending
deriving DecidableEq, Repr

/-- The field table: 256 slots and the arrival stamp counter (3.1). -/
structure FieldTable where
  slots : Store Slot
  stamp : BitVec 32
deriving DecidableEq, Repr

/-! ## LAYOUT operations and the dispatcher's hand (3.2, R20) -/

/-- Result codes (R145). -/
inductive ResultCode where
  | done
  | slotBusy
  | slotFree
  | range
  | overlap
  | rule
  | crawlRow
  | stackFull
  | saveFull
  | stackEmpty
  | badRequest
deriving DecidableEq, Repr

/-- The fields of a BIND operation as coded (11.2), each read as a number. `spare` holds bits 3 to 2 of byte 11. -/
structure BindOp where
  slot : Nat
  source : Nat
  instrument : Nat
  field : Nat
  row : Nat
  col : Nat
  width : Nat
  kindCode : Nat
  ruleCode : Nat
  places : Nat
  expo : Nat
  priority : Nat
  spare : Nat
  half : Bool
  group : Bool
  fg : Colour
  bg : Colour
  attrs : Byte
deriving DecidableEq, Repr

/-- One LAYOUT operation (3.2). -/
inductive LayoutOp where
  | bind (op : BindOp)
  | unbind (slot : Nat)
  | level (slot : Nat) (priority : Nat)
deriving DecidableEq, Repr

/-- The outcome of one LAYOUT operation, as the REPLY lists it (R41). -/
structure OpResult where
  slot : Nat
  code : ResultCode
  generation : BitVec 8
deriving DecidableEq, Repr

/-- A LAYOUT frame being carried out: its requester, its operations not yet taken and the results so
far (R41). -/
structure LayoutJob where
  sender : Nat
  seq : BitVec 16
  remaining : List LayoutOp
  results : List OpResult
deriving DecidableEq, Repr

/-- The frame in the dispatcher's hand, and how far it has come (R20). -/
inductive Hand where
  | idle
  /-- A PAINT frame, until its run's unit has ended (R105). -/
  | paint (frame : RxFrame)
  /-- A LAYOUT frame whose next operation is to be taken (R41). -/
  | layout (job : LayoutJob)
  /-- A LAYOUT frame whose BIND fill waits to be applied (R44). -/
  | layoutFill (job : LayoutJob)
  /-- An OVERLAY frame that waits until the overlay unit has no request in hand (R114). -/
  | overlayWait (frame : RxFrame)
  /-- An OVERLAY frame whose write unit has not ended (R114). -/
  | overlayUnit (sender : Nat) (seq : BitVec 16)
deriving DecidableEq, Repr

/-! ## Text writer, paint unit, cell store (chapters 5 and 6) -/

/-- A PAINT frame's run of text (6.3). -/
structure Run where
  row : Nat
  col : Nat
  fg : Colour
  bg : Colour
  attrs : Attrs
  glyphs : List Byte
deriving DecidableEq, Repr

/-- The text writer's write unit (6.2). -/
inductive TextUnit where
  | fill (place : Placement) (base : Base)
  | base (run : Run)
  | top (run : Run)
deriving DecidableEq, Repr

/-- The operation in flight of the paint unit (R77): PAINTING or RESTYLING. -/
inductive PaintOp where
  | paint (slot : Nat) (generation : BitVec 8) (value : Value) (source : Nat) (stamp : BitVec 32)
  | restyle (slot : Nat) (generation : BitVec 8)
deriving DecidableEq, Repr

/-- Owner map values (R99). -/
inductive Owner where
  | none
  | slot (n : Nat)
  | crawl
deriving DecidableEq, Repr

/-- The cell store and its two maps; the key of a cell is row × 128 + column (R98 to R100). -/
structure CellStore where
  cells : Store Cell
  owner : Store Owner
  cover : Store Nat
deriving DecidableEq, Repr

/-- The four writers of the cell store (R101). -/
inductive Writer where
  | overlay
  | crawl
  | paint
  | text
deriving DecidableEq, Repr

/-- What the granted write unit decided at its grant from state that other blocks may change before it ends
(R102; DEDUCED, log 7). -/
inductive Decision where
  /-- Nothing: all that the unit depends on stands until it ends, or the port is free. -/
  | standing
  /-- A paint or restyle that failed its completion checks (R81, R86). -/
  | abandoned
  /-- A paint or restyle that passed them, with the slot record that gives its cells and colours (R82, R86). -/
  | slot (record : Slot)
  /-- A repaint of the crawl row: its cells from column 0 on (R141). -/
  | row (cells : List Cell)
  /-- An orphan close: how many levels it closes (R122). -/
  | closes (levels : Nat)
deriving DecidableEq, Repr

/-- The write-port arbiter (R101): the writer whose granted unit holds the port, and what that unit decided
at its grant (R102). -/
structure Arbiter where
  holder : Option Writer
  decided : Decision
deriving DecidableEq, Repr

/-- The scan engine (R109, R111): the blanking, the sampled phase count, whether the display frame is blanked, how
many of its cells have been read, in row-major order, and those cells as they were read (log 15). -/
structure Scan where
  blank : Bool
  sampled : BitVec 16
  frame : Store Cell
  frameBlank : Bool
  read : Nat
deriving DecidableEq, Repr

/-! ## Overlay unit (chapter 7) -/

/-- A level record (R113). -/
structure Level where
  top : Nat
  left : Nat
  height : Nat
  width : Nat
  border : Bool
  fillFg : Colour
  fillBg : Colour
  requester : Nat
  offset : Nat
  length : Nat
deriving DecidableEq, Repr

/-- The fields of an OPEN operation as coded (11.2). -/
structure OpenOp where
  top : Nat
  left : Nat
  height : Nat
  width : Nat
  flags : Byte
  fg : Colour
  bg : Colour
deriving DecidableEq, Repr

/-- The overlay unit's request in hand (R114). -/
inductive OverlayRequest where
  | openLevel (op : OpenOp) (requester : Nat)
  | close
  | closeAll
  | orphan
  | unwinding
deriving DecidableEq, Repr

/-- The overlay unit (R113). The depth is the number of levels; the first is level 1. -/
structure Overlay where
  levels : List Level
  used : Nat
  save : Store Cell
  request : Option OverlayRequest
deriving DecidableEq, Repr

/-! ## Group timer and crawl engine (chapter 8) -/

/-- Timing states (R126). -/
inductive Timing where
  | free
  | leading
  | following
deriving DecidableEq, Repr

/-- The group timer (R126). -/
structure GroupTimer where
  phase : BitVec 16
  timing : Timing
  reference : Nat
  corrections : Nat
  countdown : Nat
deriving DecidableEq, Repr

/-- A tape entry (R135). -/
structure TapeEntry where
  valid : Bool
  index : BitVec 16
  glyph : Byte
  fg : Colour
  bg : Colour
  attrs : Attrs
deriving DecidableEq, Repr

/-- The crawl engine (R134, R135, R141). `tickDue`: a phase tick that calls for a crawl step and has not
been taken yet (DESIGN CHOICE, log 9, safe). -/
structure Crawl where
  p : BitVec 16
  tape : Store TapeEntry
  request : Bool
  repeatMark : Bool
  tickDue : Bool
deriving DecidableEq, Repr

/-! ## Control unit (chapters 9 and 10) -/

/-- The five states of the painter (chapter 10). -/
inductive Mode where
  | held
  | loading
  | clearing
  | unwinding
  | running
deriving DecidableEq, Repr

/-- Reset causes (R152). -/
inductive Cause where
  | power
  | coldPin
  | warmPin
  | remote
deriving DecidableEq, Repr

/-- Clock states (R158). -/
inductive Clock where
  | reference
  | backup
deriving DecidableEq, Repr

/-- The control unit. `coldCause`: a cold reset has not reached RUNNING, and its cause (R152). -/
structure Control where
  mode : Mode
  heldByPower : Bool
  coldCause : Option Cause
  cause : Cause
  config : Configuration
  /-- Configuration state VALID (R155). -/
  valid : Bool
  clamped : Nat
  clock : Clock
  /-- Clash latch (R21). -/
  clash : Bool
  /-- Running bank (R148). -/
  running : Store Nat
  /-- Snapshot bank (R148). -/
  snapshot : Store Nat
deriving DecidableEq, Repr

/-! ## The whole painter -/

/-- The state of one painter, with the queue of the commands that wait (`pending`, first in, first out)
and the model's own counter for free values (`freeCount`, the draws made so far; log 5, 10, 11, 15, 19). -/
structure State where
  pending : List Instr
  portA : Port
  portB : Port
  frameQueue : List RxFrame
  tx : TxQueue
  peers : Store PeerEntry
  hand : Hand
  text : Option TextUnit
  fields : FieldTable
  paint : Option PaintOp
  store : CellStore
  port : Arbiter
  scan : Scan
  overlay : Overlay
  group : GroupTimer
  crawl : Crawl
  control : Control
  freeCount : Nat
deriving DecidableEq, Repr

/-- Reasons to stop with a fault: none. Every wrong input of this block is counted, refused or unusable
(R3, R30, R145), so no rule of the spec stops the painter, and no meaning answers with a fault. -/
inductive Fault where
deriving DecidableEq, Repr

/-- Reasons to refuse a command. -/
inductive Refusal where
  /-- Raised by an arm of `exec` that has no meaning yet. Safe: nothing is claimed of the command. -/
  | notModelled (mnemonic : String)
  /-- Raised by the commands whose operands no event can carry (`Instr.wf` fails): a reception of more than
  2,048 bit-times, one within which the carrier would have dropped or one not split after its last complete byte, an image that is not 64 bytes, a station above 62, a slot
  above 255. Safe: such a command spells no event of the part (log 6). -/
  | illFormed (mnemonic : String)
deriving DecidableEq, Repr

/-- A lane port without frame, carrier or reception (R1, R18). -/
def Port.reset : Port where
  rx := .closed
  carrier := false
  tx := .idle
  hand := none
  attempts := 0
  hold := 0

/-- The machine right after reset: the power-on detector has asserted and the painter is in HELD, with
the values that a cold reset sets from the start of HELD (R152, R18, R19, R126, R142, R148, R158). What CLEARING
sets later (cells, maps, slots, overlay stack, P and tape) holds its CLEARING value already (DESIGN CHOICE, log 2,
unsafe); the reset cause, the configuration fields besides the station, the carriers and the save area hold the
values of log 3 (DESIGN CHOICE, unsafe). -/
def State.reset : State where
  pending := []
  portA := Port.reset
  portB := Port.reset
  frameQueue := []
  tx := { frames := [], seq := 0, queued := 0 }
  peers := []
  hand := .idle
  text := none
  fields := { slots := [], stamp := 0 }
  paint := none
  store := { cells := [], owner := [], cover := [] }
  port := { holder := none, decided := .standing }
  scan := { blank := true, sampled := 0, frame := [], frameBlank := true, read := 0 }
  overlay := { levels := [], used := 0, save := [], request := none }
  group := { phase := 0, timing := .free, reference := 63, corrections := 0, countdown := 0 }
  crawl := { p := 0, tape := [], request := false, repeatMark := false, tickDue := false }
  control :=
    { mode := .held, heldByPower := true, coldCause := some .power, cause := .power,
      config := Configuration.default, valid := false, clamped := 0, clock := .backup, clash := false,
      running := [], snapshot := [] }
  freeCount := 0

end Sys2Proof.Machine
end

