-- ==== Sys2Proof/Machine/Store.lean ====
section
/-!
DEFINITION. The operations on addressed stores, their one canonical form, and what an unlisted key of
each store reads as (the value of the cold reset).
-/
namespace Sys2Proof.Machine

/-- What a store holds at a key; an unlisted key reads as `d`. -/
def storeGet {β : Type} (d : β) : Store β → Nat → β
  | [], _ => d
  | (j, v) :: m, k => if j = k then v else storeGet d m k

/-- Put an entry before the first larger key. -/
def storeInsert {β : Type} (k : Nat) (v : β) : Store β → Store β
  | [] => [(k, v)]
  | (j, w) :: m => if k < j then (k, v) :: (j, w) :: m else (j, w) :: storeInsert k v m

/-- Remove every entry of a key. -/
def storeErase {β : Type} (k : Nat) (m : Store β) : Store β :=
  m.filter (fun e => e.1 != k)

/-- Write `v` at key `k`. Writing what an unlisted key reads as removes the entry. -/
def storeSet {β : Type} [DecidableEq β] (d : β) (m : Store β) (k : Nat) (v : β) : Store β :=
  if v = d then storeErase k m else storeInsert k v (storeErase k m)

/-- Apply `f` to every listed value. The callers' `f` keeps `d`, so that unlisted values follow. -/
def storeMap {β : Type} [DecidableEq β] (d : β) (f : β → β) (m : Store β) : Store β :=
  m.filterMap (fun e => if f e.2 = d then none else some (e.1, f e.2))

/-- Write the pairs in their order. -/
def storeSetAll {β : Type} [DecidableEq β] (d : β) (m : Store β) (ps : List (Nat × β)) : Store β :=
  ps.foldl (fun acc e => storeSet d acc e.1 e.2) m

/-- Keys strictly rising from a bound. -/
def keysRise {β : Type} : Nat → Store β → Bool
  | _, [] => true
  | lo, (k, _) :: m => decide (lo ≤ k) && keysRise (k + 1) m

/-- The canonical form of a store: keys strictly rising, and no entry equal to what an unlisted key
reads as. -/
def storeWf {β : Type} [DecidableEq β] (d : β) (m : Store β) : Bool :=
  keysRise 0 m && m.all (fun e => decide (e.2 ≠ d))

/-! ## What an unlisted key reads as -/

/-- No attributes. -/
def attrsClear : Attrs := ⟨false, false, false, false⟩

/-- The cell that CLEARING writes (R98). -/
def cellBlank : Cell := { glyph := 32, fg := 7, bg := 0, attrs := attrsClear }

/-- A peer entry after any reset (R19). -/
def PeerEntry.cold : PeerEntry where
  state := .unheard
  high := 0
  window := 0
  run := false
  silenceAge := 0
  ageA := 255
  ageB := 255
  painter := false
  beaconGroup := 0
  beaconAge := 65535
  silenceDue := false
  lapseDue := false

/-- No highlight, flash direction UP (R55). -/
def Highlight.cold : Highlight := { stage := .none, remaining := 0, flashUp := true }

/-- A slot after a cold reset (R55). -/
def Slot.cold : Slot where
  bound := false
  generation := 0
  key := { source := 0, instrument := 0, field := 0 }
  place := { row := 0, col := 0, width := 1 }
  format := { kind := .decimal, places := 0, expo := 0, half := false, group := false }
  rule := .plain
  priority := 0
  base := { fg := 7, bg := 0, attrs := attrsClear }
  shown := none
  direction := .none
  highlight := Highlight.cold
  stale := false
  overflow := false
  restyle := false
  pending := none

/-- A tape entry after a cold reset (R142). -/
def TapeEntry.cold : TapeEntry :=
  { valid := false, index := 0, glyph := 32, fg := 0, bg := 0, attrs := attrsClear }

/-! ## Readers and writers by block -/

/-- The peer entry of a station. -/
def State.peer (s : State) (p : Nat) : PeerEntry := storeGet PeerEntry.cold s.peers p

/-- Write the peer entry of a station. -/
def State.setPeer (s : State) (p : Nat) (e : PeerEntry) : State :=
  { s with peers := storeSet PeerEntry.cold s.peers p e }

/-- The record of a slot. -/
def State.slot (s : State) (n : Nat) : Slot := storeGet Slot.cold s.fields.slots n

/-- Write the record of a slot. -/
def State.setSlot (s : State) (n : Nat) (r : Slot) : State :=
  { s with fields := { s.fields with slots := storeSet Slot.cold s.fields.slots n r } }

/-- Apply `f` to every slot record; `f` keeps `Slot.cold`. -/
def State.mapSlots (s : State) (f : Slot → Slot) : State :=
  { s with fields := { s.fields with slots := storeMap Slot.cold f s.fields.slots } }

/-- The cell record of the cell store at a key. -/
def State.cell (s : State) (i : Nat) : Cell := storeGet cellBlank s.store.cells i

/-- Write a cell record of the cell store. -/
def State.setCell (s : State) (i : Nat) (c : Cell) : State :=
  { s with store := { s.store with cells := storeSet cellBlank s.store.cells i c } }

/-- The owner of a cell. -/
def State.ownerOf (s : State) (i : Nat) : Owner := storeGet Owner.none s.store.owner i

/-- The cover level of a cell. -/
def State.coverOf (s : State) (i : Nat) : Nat := storeGet 0 s.store.cover i

/-- A save record. -/
def State.saved (s : State) (i : Nat) : Cell := storeGet cellBlank s.overlay.save i

/-- Write a save record. -/
def State.setSaved (s : State) (i : Nat) (c : Cell) : State :=
  { s with overlay := { s.overlay with save := storeSet cellBlank s.overlay.save i c } }

/-- A place of the tape ring. -/
def State.tapeAt (s : State) (i : Nat) : TapeEntry := storeGet TapeEntry.cold s.crawl.tape i

/-- Write a place of the tape ring. -/
def State.setTape (s : State) (i : Nat) (e : TapeEntry) : State :=
  { s with crawl := { s.crawl with tape := storeSet TapeEntry.cold s.crawl.tape i e } }

/-- A running counter. -/
def State.counter (s : State) (n : Nat) : Nat := storeGet 0 s.control.running n

/-- A snapshot counter. -/
def State.snapCounter (s : State) (n : Nat) : Nat := storeGet 0 s.control.snapshot n

/-- One lane's port. -/
def State.lanePort (s : State) : Lane → Port
  | .a => s.portA
  | .b => s.portB

/-- Write one lane's port. -/
def State.setLanePort (s : State) (l : Lane) (p : Port) : State :=
  match l with
  | .a => { s with portA := p }
  | .b => { s with portB := p }

end Sys2Proof.Machine
end

