-- ==== Sys2Proof/Machine/Operands.lean ====
section
/-!
DEFINITION. Every operand form of the lanes and of the configuration memory: the line code, the frame
header, the payloads of each kind, the bytes of what the painter sends, the CRC and the image (chapter 11, R1 to R3,
R156, R160 to R162).
-/
namespace Sys2Proof.Machine

/-! ## Bytes -/

/-- Byte `i` of a list; 0 beyond its end (callers test the length first). -/
def byteAt (bs : List Byte) (i : Nat) : Byte := bs.getD i 0

/-- Two bytes, high byte first (00_scope.md "Byte order"). -/
def be16 (hi lo : Byte) : BitVec 16 := hi ++ lo

/-- Four bytes, high byte first. -/
def be32 (a b c d : Byte) : BitVec 32 := a ++ b ++ c ++ d

/-- A 16-bit value as two bytes, high byte first. -/
def bytes16 (w : BitVec 16) : List Byte := [w.extractLsb' 8 8, w.extractLsb' 0 8]

/-- A 32-bit value as four bytes, high byte first. -/
def bytes32 (w : BitVec 32) : List Byte :=
  [w.extractLsb' 24 8, w.extractLsb' 16 8, w.extractLsb' 8 8, w.extractLsb' 0 8]

/-- One byte from a number. -/
def byteOf (n : Nat) : Byte := BitVec.ofNat 8 n

/-- The colours byte: fg in bits 7 to 4, bg in bits 3 to 0 (11.2). -/
def coloursByte (fg bg : Colour) : Byte := fg ++ bg

/-- The fg of a colours byte. -/
def fgOf (b : Byte) : Colour := b.extractLsb' 4 4

/-- The bg of a colours byte. -/
def bgOf (b : Byte) : Colour := b.extractLsb' 0 4

/-- The attributes byte: bit 0 underline, bit 1 dim, bit 2 blink, bit 3 inverse (11.2). -/
def attrsOfByte (b : Byte) : Attrs := ⟨b.getLsbD 0, b.getLsbD 1, b.getLsbD 2, b.getLsbD 3⟩

/-- The attributes as a byte, unassigned bits 0 (R160). -/
def attrsByte (a : Attrs) : Byte :=
  byteOf (a.underline.toNat + 2 * a.dim.toNat + 4 * a.blink.toNat + 8 * a.inverse.toNat)

/-! ## Line code (R162) -/

/-- The bit-time of a bit: a transition at its middle, low to high for 1 and high to low for 0. -/
def bitTime (b : Bool) : BitTime := { first := !b, second := b }

/-- The bit-time lacks its mid-bit transition: a line-code violation. -/
def bitViolates (t : BitTime) : Bool := decide (t.first = t.second)

/-- The bit-times of a byte, most significant bit first (chapter 11). -/
def byteTimes (b : Byte) : List BitTime :=
  [7, 6, 5, 4, 3, 2, 1, 0].map (fun i => bitTime (b.getLsbD i))

/-- What bytes look like on the line. -/
def lineCode (bytes : List Byte) : List BitTime := bytes.flatMap byteTimes

/-- The bit of a bit-time: 1 when the line is high in its second half. -/
def bitOf (t : BitTime) : Nat := t.second.toNat

/-- The complete bytes of a reception; the bits after the last complete byte are discarded (R1). -/
def lineBytes : List BitTime → List Byte
  | a :: b :: c :: d :: e :: f :: g :: h :: rest =>
    byteOf (128 * bitOf a + 64 * bitOf b + 32 * bitOf c + 16 * bitOf d + 8 * bitOf e + 4 * bitOf f + 2 * bitOf g + bitOf h) ::
      lineBytes rest
  | _ => []

/-- A line-code violation occurred somewhere in the reception (R3). -/
def lineViolation (times : List BitTime) : Bool := times.any bitViolates

/-- The levels of the line, half a bit-time each. -/
def lineLevels (times : List BitTime) : List Bool := times.flatMap (fun t => [t.first, t.second])

/-- 2 bit-times pass somewhere without a transition, so that the carrier drops there. -/
def quietWithin : List Bool → Bool
  | a :: b :: c :: d :: rest => (a == b && b == c && c == d) || quietWithin (b :: c :: d :: rest)
  | _ => false

/-- The last bit-time has no transition, at its start or at its middle. -/
def quietAtEnd (levels : List Bool) : Bool :=
  match levels.reverse with
  | a :: b :: c :: _ => a == b && b == c
  | _ => false

/-- Carrier is held through these bit-times: the last transition before the drop is in the last of them (R162). -/
def carrierHeld (times : List BitTime) : Bool :=
  !quietWithin (lineLevels times) && !quietAtEnd (lineLevels times)

/-- The jam: 32 bit-times held without mid-bit transitions, reversing level at each bit boundary, from a first
level on. -/
def jamTimes (high : Bool) : List BitTime :=
  (List.range 32).map (fun i =>
    let level := if i % 2 = 0 then high else !high
    { first := level, second := level })

/-! ## CRC (R161) -/

/-- Shift the CRC register left `n` places, combining with 0x1021 whenever the bit shifted out was 1. -/
def crcShift : Nat → BitVec 16 → BitVec 16
  | 0, r => r
  | n + 1, r => crcShift n (if r.msb then (r <<< 1) ^^^ 0x1021#16 else r <<< 1)

/-- One byte into the CRC register. -/
def crcByte (r : BitVec 16) (b : Byte) : BitVec 16 := crcShift 8 (r ^^^ (b ++ 0#8))

/-- The CRC over a list of bytes, from 0xFFFF, not inverted. -/
def crc16 (bs : List Byte) : BitVec 16 := bs.foldl crcByte 0xFFFF#16

/-- The CRC of a reception is good (R2): it has at least 3 bytes, and the value over bytes 0 to L − 3
equals the last two, high byte first. -/
def crcGood (bs : List Byte) : Bool :=
  decide (3 ≤ bs.length) &&
    decide (crc16 (bs.take (bs.length - 2)) =
      be16 (byteAt bs (bs.length - 2)) (byteAt bs (bs.length - 1)))

/-! ## Frame header (11.1) -/

/-- Sender: byte 0, bits 7 to 2. -/
def RxFrame.sender (f : RxFrame) : Nat := (byteAt f.bytes 0).toNat / 4

/-- Lane tag: byte 0, bit 1. -/
def RxFrame.tag (f : RxFrame) : Lane := if (byteAt f.bytes 0).getLsbD 1 then .b else .a

/-- Restart flag: byte 0, bit 0. -/
def RxFrame.restart (f : RxFrame) : Bool := (byteAt f.bytes 0).getLsbD 0

/-- Sequence: bytes 1 and 2. -/
def RxFrame.seq (f : RxFrame) : BitVec 16 := be16 (byteAt f.bytes 1) (byteAt f.bytes 2)

/-- Kind: byte 3, bits 7 to 4. -/
def RxFrame.kind (f : RxFrame) : Nat := (byteAt f.bytes 3).toNat / 16

/-- Group: byte 3, bits 3 to 0. -/
def RxFrame.group (f : RxFrame) : Nat := (byteAt f.bytes 3).toNat % 16

/-- Destination: byte 4, bits 7 to 2. -/
def RxFrame.dest (f : RxFrame) : Nat := (byteAt f.bytes 4).toNat / 4

/-- Payload length: byte 5. -/
def RxFrame.payloadLength (f : RxFrame) : Nat := (byteAt f.bytes 5).toNat

/-- The payload: bytes 6 to L − 3. -/
def RxFrame.payload (f : RxFrame) : List Byte := (f.bytes.drop 6).take (f.bytes.length - 8)

/-- Kind codes (1.2). -/
def kindQuote : Nat := 1
/-- PRESENCE. -/
def kindPresence : Nat := 2
/-- PAINT. -/
def kindPaint : Nat := 3
/-- LAYOUT. -/
def kindLayout : Nat := 4
/-- OVERLAY. -/
def kindOverlay : Nat := 5
/-- CRAWL. -/
def kindCrawl : Nat := 6
/-- BEACON. -/
def kindBeacon : Nat := 7
/-- QUERY. -/
def kindQuery : Nat := 8
/-- REPLY. -/
def kindReply : Nat := 9

/-- The kind code of a frame that the painter sends (1.2). -/
def TxKind.code : TxKind → Nat
  | .beacon => kindBeacon
  | .reply => kindReply

/-- The class of a frame that the painter sends: 1 for a BEACON, 2 for a REPLY (R10). -/
def TxKind.frameClass : TxKind → Nat
  | .beacon => 1
  | .reply => 2

/-- The code of a lane tag (11.1). -/
def laneBit : Lane → Nat
  | .a => 0
  | .b => 1

/-- The bytes of a frame on a lane: header with that lane's tag, payload, and the CRC over them, high
byte first (R2, R10, 11.1). -/
def TxFrame.encode (f : TxFrame) (station : Nat) (lane : Lane) : List Byte :=
  let body :=
    [byteOf (station * 4 + laneBit lane * 2 + f.restart.toNat)] ++ bytes16 f.seq ++
    [byteOf (f.kind.code * 16 + f.group), byteOf (f.dest * 4 + f.kind.frameClass),
     byteOf f.payload.length] ++ f.payload
  body ++ bytes16 (crc16 body)

/-! ## QUOTE (R47) -/

/-- One item of a QUOTE frame. -/
structure Item where
  field : Nat
  value : Value
deriving DecidableEq, Repr

/-- Read exactly this many items from exactly these bytes. -/
def parseItems : Nat → List Byte → Option (List Item)
  | 0, [] => some []
  | 0, _ :: _ => none
  | _ + 1, [] => none
  | n + 1, marker :: rest =>
    if marker.toNat / 32 = 1 then
      match rest with
      | scale :: a :: b :: c :: d :: rest' =>
        (parseItems n rest').map
          (fun is => { field := marker.toNat % 32, value := .numeric scale.toNat (be32 a b c d) } :: is)
      | _ => none
    else if marker.toNat / 32 = 2 then
      match rest with
      | count :: rest' =>
        if 1 ≤ count.toNat ∧ count.toNat ≤ 12 ∧ count.toNat ≤ rest'.length then
          (parseItems n (rest'.drop count.toNat)).map
            (fun is => { field := marker.toNat % 32, value := .text (rest'.take count.toNat) } :: is)
        else none
      | [] => none
    else none

/-- The instrument and items of a QUOTE payload, or none where R47 calls the frame unusable. -/
def parseQuote : List Byte → Option (Nat × List Item)
  | i1 :: i0 :: count :: rest =>
    if (be16 i1 i0).toNat ≤ 4095 ∧ 1 ≤ count.toNat ∧ count.toNat ≤ 8 then
      (parseItems count.toNat rest).map (fun is => ((be16 i1 i0).toNat, is))
    else none
  | _ => none

/-! ## LAYOUT (R40, 11.2) -/

/-- The fields of a BIND from its 13 bytes after the operation code. -/
def parseBind : List Byte → Option (BindOp × List Byte)
  | slot :: source :: i1 :: i0 :: field :: row :: col :: width :: kr :: dk :: pf :: colours :: attrs :: rest =>
    some
      ({ slot := slot.toNat, source := source.toNat, instrument := (be16 i1 i0).toNat,
         field := field.toNat, row := row.toNat, col := col.toNat, width := width.toNat,
         kindCode := kr.toNat / 16, ruleCode := kr.toNat % 16,
         places := dk.toNat / 16, expo := dk.toNat % 16,
         priority := pf.toNat / 16, spare := pf.toNat / 4 % 4,
         half := pf.getLsbD 1, group := pf.getLsbD 0,
         fg := fgOf colours, bg := bgOf colours, attrs := attrs }, rest)
  | _ => none

/-- Read exactly this many operations from exactly these bytes. -/
def parseOps : Nat → List Byte → Option (List LayoutOp)
  | 0, [] => some []
  | 0, _ :: _ => none
  | _ + 1, [] => none
  | n + 1, code :: rest =>
    if code = 1 then
      match parseBind rest with
      | some (op, rest') => (parseOps n rest').map (fun ops => .bind op :: ops)
      | none => none
    else if code = 2 then
      match rest with
      | slot :: rest' => (parseOps n rest').map (fun ops => .unbind slot.toNat :: ops)
      | [] => none
    else if code = 3 then
      match rest with
      | slot :: prio :: rest' =>
        (parseOps n rest').map (fun ops => .level slot.toNat prio.toNat :: ops)
      | _ => none
    else none

/-- The operations of a LAYOUT payload, or none where R40 calls the frame unusable. -/
def parseLayout : List Byte → Option (List LayoutOp)
  | count :: rest =>
    if 1 ≤ count.toNat ∧ count.toNat ≤ 4 then parseOps count.toNat rest else none
  | [] => none

/-- The kind of a BIND's kind code (11.2). -/
def FormatKind.ofCode : Nat → Option FormatKind
  | 0 => some .decimal
  | 1 => some .fraction
  | 2 => some .size
  | 3 => some .change
  | 4 => some .text
  | _ => none

/-- The code of a kind (11.2). -/
def FormatKind.code : FormatKind → Nat
  | .decimal => 0
  | .fraction => 1
  | .size => 2
  | .change => 3
  | .text => 4

/-- The colour rule of a BIND's rule code (11.2). -/
def ColourRule.ofCode : Nat → Option ColourRule
  | 0 => some .plain
  | 1 => some .tick
  | 2 => some .sign
  | _ => none

/-- The code of a colour rule (11.2). -/
def ColourRule.code : ColourRule → Nat
  | .plain => 0
  | .tick => 1
  | .sign => 2

/-! ## PAINT, CRAWL, BEACON, OVERLAY -/

/-- Whether a PAINT payload names TOP, and its run; none where R105 calls the frame unusable. -/
def parsePaint : List Byte → Option (Bool × Run)
  | target :: row :: col :: colours :: attrs :: g :: glyphs =>
    if target.toNat ≤ 1 ∧ attrs.toNat < 16 ∧ (target = 1 ∨ (row.toNat ≤ 47 ∧ col.toNat ≤ 127)) then
      some (decide (target = 1),
        { row := row.toNat, col := col.toNat, fg := fgOf colours, bg := bgOf colours,
          attrs := attrsOfByte attrs, glyphs := g :: glyphs })
    else none
  | _ => none

/-- A CRAWL payload: first tape index, colours, attributes and glyphs (8.4). -/
structure CrawlText where
  first : BitVec 16
  fg : Colour
  bg : Colour
  attrs : Attrs
  glyphs : List Byte
deriving DecidableEq, Repr

/-- The text of a CRAWL payload, or none where R136's last two tests call the frame unusable. -/
def parseCrawl : List Byte → Option CrawlText
  | t1 :: t0 :: colours :: attrs :: g :: glyphs =>
    if attrs.toNat < 16 then
      some { first := be16 t1 t0, fg := fgOf colours, bg := bgOf colours,
             attrs := attrsOfByte attrs, glyphs := g :: glyphs }
    else none
  | _ => none

/-- The phase count and P of a BEACON payload of 4 bytes (11.2). -/
def parseBeacon : List Byte → Option (BitVec 16 × BitVec 16)
  | [a, b, c, d] => some (be16 a b, be16 c d)
  | _ => none

/-- The operation of an OVERLAY payload (7.2). -/
inductive OverlayOp where
  | openLevel (op : OpenOp)
  | close
  | closeAll
deriving DecidableEq, Repr

/-- The operation of an OVERLAY payload, or none where R114 calls the frame unusable. -/
def parseOverlay : List Byte → Option OverlayOp
  | [code, top, left, height, width, flags, colours] =>
    if code = 1 then
      some (.openLevel
        { top := top.toNat, left := left.toNat, height := height.toNat, width := width.toNat,
          flags := flags, fg := fgOf colours, bg := bgOf colours })
    else none
  | [code] => if code = 2 then some .close else if code = 3 then some .closeAll else none
  | _ => none

/-! ## Which row of the table takes a frame (95_what_each_step_holds.md, log 12) -/

/-- The frame is of kind `kind`, and names operation `code` of that kind's `codes`, or names none of them
(DESIGN CHOICE, log 12, safe: every row of the kind may take a frame whose operation cannot be read). -/
def takesOp (kind code : Nat) (codes : List Nat) (named : Option Byte) (f : RxFrame) : Bool :=
  decide (f.kind = kind) &&
    match named with
    | some b => decide (b.toNat = code) || decide (b.toNat ∉ codes)
    | none => true

/-- A PAINT row takes the frame: target code 0 BASE, 1 TOP. -/
def takesPaint (code : Nat) (f : RxFrame) : Bool :=
  takesOp kindPaint code [0, 1] f.payload.head? f

/-- A LAYOUT row takes the frame: the code of its first operation is 1 BIND, 2 UNBIND, 3 LEVEL. -/
def takesLayout (code : Nat) (f : RxFrame) : Bool :=
  takesOp kindLayout code [1, 2, 3] (f.payload.drop 1).head? f

/-- An OVERLAY row takes the frame: operation code 1 OPEN, 2 CLOSE, 3 CLOSE_ALL. -/
def takesOverlay (code : Nat) (f : RxFrame) : Bool :=
  takesOp kindOverlay code [1, 2, 3] f.payload.head? f

/-- A QUERY row takes the frame: query code 1 STATUS, 2 CAPTURE, 3 COUNTERS, 4 SLOT, 5 RESTART; an empty
payload is taken by any of the rows. -/
def takesQuery (code : Nat) (f : RxFrame) : Bool :=
  decide (f.kind = kindQuery) &&
    match f.payload.head? with
    | some b => decide (b.toNat = code)
    | none => true

/-- BAD_REQUEST takes the frame: a QUERY whose code is none of the five, or whose payload is empty. -/
def takesBadRequest (f : RxFrame) : Bool :=
  decide (f.kind = kindQuery) &&
    match f.payload.head? with
    | some b => decide (b.toNat ∉ [1, 2, 3, 4, 5])
    | none => true

/-- UNUSABLE_FRAME takes the frame: kind 0, 10 to 15, or REPLY (R30). -/
def takesUnusable (f : RxFrame) : Bool :=
  decide (f.kind = 0) || decide (kindReply ≤ f.kind)

/-! ## The configuration image (R155, R156, 11.4) -/

/-- A field and whether it was out of range: the value taken, and 1 when it was changed. -/
def clampTo (outOfRange : Bool) (legal v : Nat) : Nat × Nat := if outOfRange then (legal, 1) else (v, 0)

/-- The blink period: 0 and 1 become 2, an odd value from 3 the even value below it (R156). -/
def clampBlink (v : Nat) : Nat × Nat :=
  if v < 2 then (2, 1) else if v % 2 = 1 then (v - 1, 1) else (v, 0)

/-- The tile count: 1 when 0, 8 when above 8 (R156). -/
def clampTileCount (v : Nat) : Nat × Nat :=
  if v = 0 then (1, 1) else if 8 < v then (8, 1) else (v, 0)

/-- The tile position, after the tile count is settled: 7 when above 7, then tile count − 1 when not
below it, counted once (R156). -/
def clampTilePosition (count v : Nat) : Nat × Nat :=
  if min v 7 < count then (min v 7, if 7 < v then 1 else 0) else (count - 1, 1)

/-- The crawl step: 1 when 0, 15 when above 15 (R156). -/
def clampCrawlStep (v : Nat) : Nat × Nat :=
  if v = 0 then (1, 1) else if 15 < v then (15, 1) else (v, 0)

/-- The image is accepted (R155): its marker, and the 16-bit sum of bytes 0 to 61. -/
def imageAccepted (img : List Byte) : Bool :=
  decide (byteAt img 0 = 0xC5#8) &&
    decide (((img.take 62).map BitVec.toNat).sum % 65536 =
      (be16 (byteAt img 62) (byteAt img 63)).toNat)

/-- The fields of an accepted image, and the clamped-fields count (R156). -/
def imageFields (img : List Byte) : Configuration × Nat :=
  let at' (i : Nat) : Nat := (byteAt img i).toNat
  let station := clampTo (decide (63 < at' 1)) 63 (at' 1)
  let group := clampTo (decide (14 < at' 2)) 14 (at' 2)
  let rate := clampTo (decide (1 < at' 3)) 1 (at' 3)
  let role (i : Nat) : Nat × Nat := clampTo (decide (15 < at' (36 + i))) 15 (at' (36 + i))
  let colour (i : Nat) : Colour := BitVec.ofNat 4 (role i).1
  let blink := clampBlink (at' 49)
  let stale := clampTo (decide (at' 50 = 0)) 1 (at' 50)
  let interval := clampTo (decide (at' 51 < 8)) 8 (at' 51)
  let row := clampTo (decide (47 < at' 52) && decide (at' 52 ≠ 255)) 47 (at' 52)
  let tiles := clampTileCount (at' 54)
  let position := clampTilePosition tiles.1 (at' 53)
  let step := clampCrawlStep (at' 55)
  ({ station := station.1
     group := group.1
     rate := if rate.1 = 0 then .mbit4 else .mbit8
     palette := (List.range 16).map
       (fun i => (byteAt img (4 + 2 * i)).extractLsb' 0 4 ++ byteAt img (5 + 2 * i))
     roles :=
       { up := colour 0, down := colour 1, flashUp := colour 2, flashDown := colour 3, fade1 := colour 4,
         fade2 := colour 5, fade3 := colour 6, stale := colour 7, overflow := colour 8,
         crawlFg := colour 9, crawlBg := colour 10 }
     hold := at' 47
     fade := at' 48
     blink := blink.1
     staleUnits := stale.1
     interval := interval.1
     crawlRow := if row.1 = 255 then none else some row.1
     tilePosition := position.1
     tileCount := tiles.1
     crawlStep := step.1 },
   station.2 + group.2 + rate.2 + ((List.range 11).map (fun i => (role i).2)).sum + blink.2 + stale.2 +
     interval.2 + row.2 + tiles.2 + position.2 + step.2)

end Sys2Proof.Machine
end

