-- ==== Sys2Proof/WellFormed.lean ====
section
/-!
DEFINITION. Which commands an event of the part can spell: the ranges of their operands, and that carrier is held
through a reception.
-/
namespace Sys2Proof

/-- The operands lie in the ranges that the rules give: a reception of at most 256 bytes, 2,048
bit-times, through which carrier is held, split after its last complete byte (R1, R4, R162; DEDUCED, log 6), an image
of 64 bytes (R153), a station 0 to 62 (2.1), a slot 0 to 255 (3.1). -/
def Instr.wf : Instr → Bool
  | .frameEnd _ times rest =>
    decide (times.length % 8 = 0) && decide (rest.length < 8) &&
      decide (times.length + rest.length ≤ Config.receptionTimes) && Machine.carrierHeld (times ++ rest)
  | .loadingComplete image => decide (image.length = 64)
  | .silenceEvent station => decide (station < 63)
  | .beaconLapse station => decide (station < 63)
  | .highlightMove slot => decide (slot < 256)
  | .carrierArrival _ | .jabberCutoff _ | .gapExpiry _ | .transmitComplete _ | .holdGapExpiry _
  | .collision _ | .jamEnd _ | .backoffExpiry _ | .quote | .presence | .unusableFrame | .bind
  | .unbind | .level | .bindFill | .paintBase | .paintTop | .baseRun | .topRun | .overlayOpen
  | .overlayClose | .overlayCloseAll | .openUnit | .closeUnit | .closeAllUnit | .orphanClose
  | .crawl | .beacon | .status | .capture | .counters | .slotQuery | .restart _ | .badRequest
  | .frameStart | .crawlStep | .beaconDue | .activeStart | .paintCompletion | .restyleCompletion
  | .crawlRepaint | .powerOn | .resetAssert | .heldEnd _ _ | .clearingComplete | .unwinding
  | .referenceStop | .carrierDrop _ => true

end Sys2Proof
end

