-- ==== Sys2Proof/Decode.lean ====
section
/-!
DEFINITION. Decoding a word of the opcode table. No row of spec/opcode_table.json gives bits, so no word
spells a command. (The frames, payloads and the configuration image are read in `Machine/Operands.lean`.)
-/
namespace Sys2Proof

/-- The command that a word of `nbits` bits spells by the table's bits: none, for the table gives no row
any bits (98_reader.md: n_rows_with_fixed 0). -/
def decodeTableWord (_nbits _w : Nat) : Option Instr := none

end Sys2Proof
end

