-- ==== Sys2Proof/Machine/Flags.lean ====
section
/-!
DEFINITION. The conditions, status bits and outputs that the spec computes from the state: the transmit
inhibit, FAULT, liveness, one-sidedness, the candidate set, and the codes of the status record and slot report.
-/
namespace Sys2Proof.Machine

/-- The painter is RUNNING. -/
def State.isRunning (s : State) : Bool := decide (s.control.mode = .running)

/-- Transmission is inhibited (R12): the configuration in force is DEFAULT, the own station is none, or
the clock state is BACKUP. -/
def State.inhibited (s : State) : Bool :=
  !s.control.valid || decide (s.control.config.station = 63) || decide (s.control.clock = .backup)

/-- The painter may transmit (R128). -/
def State.mayTransmit (s : State) : Bool := !s.inhibited

/-- The FAULT output is asserted, driven low (R159). -/
def State.faultAsserted (s : State) : Bool :=
  !s.control.valid || decide (s.control.config.station = 63) || decide (s.control.clock = .backup) ||
    s.control.clash

/-- The stale time T in frame starts (R32). -/
def State.staleTime (s : State) : Nat := s.control.config.staleUnits * 16

/-- The candidate limit in frame starts (R129). -/
def State.candidateLimit (s : State) : Nat := 3 * s.control.config.interval

/-- The entry is LIVE. -/
def PeerEntry.isLive (e : PeerEntry) : Bool := decide (e.state = .live)

/-- One-sided on Lane A (R35): a LIVE sender missing on Lane A. -/
def PeerEntry.missingA (e : PeerEntry) : Bool :=
  e.isLive && decide (64 < e.ageA) && decide (e.ageB ≤ 64)

/-- One-sided on Lane B (R35): a LIVE sender missing on Lane B. -/
def PeerEntry.missingB (e : PeerEntry) : Bool :=
  e.isLive && decide (64 < e.ageB) && decide (e.ageA ≤ 64)

/-- The entry is a candidate of the election of a painter of this group and limit (R129). -/
def PeerEntry.candidate (group limit : Nat) (e : PeerEntry) : Bool :=
  e.painter && decide (e.beaconGroup = group) && decide (e.beaconAge < limit)

/-- The candidate set, by station number (R129). -/
def State.candidates (s : State) : List Nat :=
  (List.range 63).filter (fun p =>
    (s.peer p).candidate s.control.config.group s.candidateLimit ||
      (decide (p = s.control.config.station) && s.mayTransmit))

/-- The frame is addressed to this painter (R28). -/
def State.addressed (s : State) (f : RxFrame) : Bool :=
  (decide (f.dest ≠ 63) && decide (f.dest = s.control.config.station)) ||
    (decide (f.dest = 63) && (decide (f.group = s.control.config.group) || decide (f.group = 15)))

/-- The crawl is enabled (R134). -/
def State.crawlEnabled (s : State) : Bool := s.control.config.crawlRow.isSome

/-- The writer has a write unit presented to the arbiter, waiting or granted (R101). -/
def State.outstanding (s : State) : Writer → Bool
  | .overlay => s.overlay.request.isSome
  | .crawl => s.crawl.request
  | .paint => s.paint.isSome
  | .text => s.text.isSome

/-- The number of slots, of the 256, for which a test holds. -/
def State.countSlots (s : State) (test : Slot → Bool) : Nat :=
  ((List.range 256).filter (fun n => test (s.slot n))).length

/-- The number of peer entries, of the 63, for which a test holds. -/
def State.countPeers (s : State) (test : PeerEntry → Bool) : Nat :=
  ((List.range 63).filter (fun p => test (s.peer p))).length

/-! ## Codes (11.3, R145) -/

/-- The code of a result (R145). -/
def ResultCode.code : ResultCode → Nat
  | .done => 0
  | .slotBusy => 1
  | .slotFree => 2
  | .range => 3
  | .overlap => 4
  | .rule => 5
  | .crawlRow => 6
  | .stackFull => 7
  | .saveFull => 8
  | .stackEmpty => 9
  | .badRequest => 10

/-- The code of a timing state (status byte 4). -/
def Timing.code : Timing → Nat
  | .free => 0
  | .leading => 1
  | .following => 2

/-- The code of a reset cause (status byte 2, bits 5 to 4). -/
def Cause.code : Cause → Nat
  | .power => 0
  | .coldPin => 1
  | .warmPin => 2
  | .remote => 3

/-- The code of a direction (slot report byte 15, bits 7 to 4). -/
def Direction.code : Direction → Nat
  | .none => 0
  | .up => 1
  | .down => 2

/-- The code of a highlight stage (slot report byte 15, bits 3 to 0). -/
def Stage.code : Stage → Nat
  | .none => 0
  | .flash => 1
  | .fade1 => 2
  | .fade2 => 3
  | .fade3 => 4

/-- The status record of 22 bytes (R146, 11.3). -/
def State.statusRecord (s : State) : List Byte :=
  [byteOf s.control.config.station, byteOf s.control.config.group,
   byteOf ((!s.control.valid).toNat + 2 * (decide (s.control.clock = .backup)).toNat +
     4 * s.control.clash.toNat + 16 * s.control.cause.code),
   byteOf s.control.clamped,
   byteOf s.group.timing.code, byteOf s.group.reference] ++
  bytes16 s.group.phase ++ bytes16 s.crawl.p ++ bytes16 (BitVec.ofNat 16 s.group.corrections) ++
  [byteOf s.overlay.levels.length] ++ bytes16 (BitVec.ofNat 16 s.overlay.used) ++
  bytes16 (BitVec.ofNat 16 (s.countSlots (fun r => r.bound))) ++
  bytes16 (BitVec.ofNat 16 (s.countSlots (fun r => r.pending.isSome))) ++
  [byteOf (s.countPeers PeerEntry.isLive), byteOf (s.countPeers PeerEntry.missingA),
   byteOf (s.countPeers PeerEntry.missingB)]

/-- The key, placement, format, rule, priority and base of a slot, as BIND bytes 2 to 13 (11.3). -/
def Slot.bindBytes (r : Slot) : List Byte :=
  [byteOf r.key.source] ++ bytes16 (BitVec.ofNat 16 r.key.instrument) ++
  [byteOf r.key.field, byteOf r.place.row, byteOf r.place.col, byteOf r.place.width,
   byteOf (r.format.kind.code * 16 + r.rule.code),
   byteOf (r.format.places * 16 + r.format.expo),
   byteOf (r.priority * 16 + 2 * r.format.half.toNat + r.format.group.toNat),
   coloursByte r.base.fg r.base.bg, attrsByte r.base.attrs]

/-- The shown value's part of a slot report, from byte 16 on: last source, type, and the value. The last
source of an absent shown value is the free byte `absent` (log 5). -/
def shownBytes (absent : Byte) : Option Shown → List Byte
  | none => [absent, 0, 0]
  | some { value := .numeric scale raw, source := src } =>
    [byteOf src, 1, byteOf scale] ++ bytes32 raw
  | some { value := .text glyphs, source := src } =>
    [byteOf src, 2, byteOf glyphs.length] ++ glyphs

/-- The slot report of slot `n` (R147, 11.3). -/
def State.slotReport (s : State) (n : Nat) (absent : Byte) : List Byte :=
  let r := s.slot n
  [byteOf n,
   byteOf (r.bound.toNat + 2 * r.shown.isSome.toNat + 4 * r.stale.toNat + 8 * r.overflow.toNat +
     16 * r.pending.isSome.toNat),
   r.generation] ++
  r.bindBytes ++
  [byteOf (r.direction.code * 16 + r.highlight.stage.code)] ++
  shownBytes absent r.shown

end Sys2Proof.Machine
end

