-- ==== Sys2Proof/Machine/Ops.lean ====
section
/-!
DEFINITION. The operations that several blocks share: the running counters, the order in which
the arbiter grants, and base-layer writes to the cell store or a save record.
-/
namespace Sys2Proof.Machine

/-! ## Counters (R6, R148) -/

/-- Add an amount to a running counter, which holds at the top (R148). -/
def State.bump (s : State) (n amount : Nat) : State :=
  { s with control := { s.control with
      running := storeSet 0 s.control.running n (min Config.counterTop (s.counter n + amount)) } }

/-- Add 1 to a counter when a condition holds. -/
def State.bumpIf (s : State) (c : Bool) (n : Nat) : State := if c then s.bump n 1 else s

/-- The number of a lane's counter: Lane B's is 16 greater (R6). -/
def laneCounter (lane : Lane) (k : Nat) : Nat := 16 * laneBit lane + k

/-- One unusable frame (R30, counter 36). -/
def State.countUnusable (s : State) : State := s.bump 36 1

/-! ## The order of grants and of events (R101) -/

/-- The waiting writer that the arbiter grants next: overlay unit, crawl engine, paint unit, text writer. -/
def State.nextWaiting (s : State) : Option Writer :=
  [Writer.overlay, .crawl, .paint, .text].find? s.outstanding

/-- Two blocks take one event, in a free order (R33, R101, R153; log 11). -/
def State.inEitherOrder (s : State) (a b : State → State) : State :=
  let s1 := { s with freeCount := s.freeCount + 1 }
  if Config.freeFirst s.freeCount then b (a s1) else a (b s1)

/-! ## Cells (R98, R103) -/

/-- The key of the cell at a row and column. -/
def cellKey (row col : Nat) : Nat := row * 128 + col

/-- The cells of a placement, from the leftmost (R39). -/
def Placement.cells (p : Placement) : List Nat :=
  (List.range p.width).map (fun x => cellKey p.row (p.col + x))

/-- The save record of a level for a cell of its rectangle, row-major from the level's offset (R113). -/
def Level.recordOf (lv : Level) (i : Nat) : Nat :=
  lv.offset + (i / 128 - lv.top) * lv.width + (i % 128 - lv.left)

/-- The save record that a base-layer write to a cell goes to; none where the cell's cover level is 0 and
the write goes to the cell store (R103). -/
def State.saveKey (s : State) (i : Nat) : Option Nat :=
  match s.coverOf i with
  | 0 => none
  | k + 1 => (s.overlay.levels[k]?).map (fun lv => lv.recordOf i)

/-- The base layer's record of a cell (R120). -/
def State.baseCell (s : State) (i : Nat) : Cell :=
  match s.saveKey i with
  | none => s.cell i
  | some j => s.saved j

/-- Write the base layer's record of a cell (R103). -/
def State.writeBase (s : State) (i : Nat) (c : Cell) : State :=
  match s.saveKey i with
  | none => s.setCell i c
  | some j => s.setSaved j c

/-- Base-layer writes in their order, within one unit. -/
def State.writeBaseAll (s : State) (ps : List (Nat × Cell)) : State :=
  ps.foldl (fun acc e => acc.writeBase e.1 e.2) s

/-- Cell-store writes in their order, not redirected (R103). -/
def State.setCells (s : State) (ps : List (Nat × Cell)) : State :=
  { s with store := { s.store with cells := storeSetAll cellBlank s.store.cells ps } }

/-- The cells of the display frame when the scan engine has read on to cell `n` while a write unit takes the cells of
`s` through `stages`, the last of them being the cells that it leaves: what was read before stays, and each other cell is
read as it stands before the unit or in one of its stages (R102, R109; log 15). -/
def State.readOn (s : State) (stages : List (Store Cell)) (n : Nat) : Store Cell :=
  let reading (i : Nat) : Bool := decide (s.scan.read ≤ i) && decide (i < n)
  let seen (i : Nat) : Nat := Config.freeSeen s.freeCount i % (stages.length + 1)
  storeSetAll cellBlank (s.scan.frame.filter (fun e => decide (e.1 < s.scan.read)))
    ((s.store.cells :: stages).zipIdx.flatMap
      (fun m => m.1.filter (fun e => reading e.1 && decide (seen e.1 = m.2))))

/-- A glyph code of a frame as a cell's glyph (00_scope.md "Glyphs and colours"). -/
def frameGlyph (g : Byte) : BitVec 9 := g.setWidth 9

/-- The outcome of a meaning that goes on. -/
def goOn (s : State) : Host.Outcome State Fault Refusal := .next s

end Sys2Proof.Machine
end

