-- ==== Sys2Proof/Machine/Formatter.lean ====
section
/-!
DEFINITION. Chapter 4: the formatter (R56 to R72) and the tick comparison (R73 to R75).
-/
namespace Sys2Proof.Machine

/-! ## Glyphs and digits (R57) -/

/-- Space, 32. -/
def gSpace : Byte := 32#8
/-- '#', 35. -/
def gHash : Byte := 35#8
/-- '+', 43. -/
def gPlus : Byte := 43#8
/-- ',', 44. -/
def gComma : Byte := 44#8
/-- '-', 45. -/
def gMinus : Byte := 45#8
/-- '.', 46. -/
def gPoint : Byte := 46#8
/-- 'K', 75. -/
def gKilo : Byte := 75#8
/-- 'M', 77. -/
def gMega : Byte := 77#8
/-- 'B', 66. -/
def gGiga : Byte := 66#8

/-- The glyph of a digit, '0' to '9' (48 to 57). -/
def digitGlyph (n : Nat) : Byte := byteOf (48 + n % 10)

/-- The digits of `n` before `acc`, at most `fuel` of them. -/
def digitsOnto : Nat → Nat → List Byte → List Byte
  | 0, _, acc => acc
  | fuel + 1, n, acc =>
    if n < 10 then digitGlyph n :: acc else digitsOnto fuel (n / 10) (digitGlyph n :: acc)

/-- A whole number in decimal digits with no leading zeros, zero as '0' (R57). The largest whole number
of this chapter has 16 digits (R58); 40 places are enough for every value that a record can hold. -/
def digits (n : Nat) : List Byte := digitsOnto 40 n []

/-- Exactly `len` digits, zero-filled on the left (R57). -/
def fixedDigits : Nat → Nat → List Byte
  | 0, _ => []
  | len + 1, n => fixedDigits len (n / 10) ++ [digitGlyph n]

/-- Digits from the rightmost on, with a comma before each fourth, seventh, … (R61). -/
def groupFromRight : List Byte → Nat → List Byte
  | [], _ => []
  | d :: ds, i =>
    (if i ≠ 0 ∧ i % 3 = 0 then [gComma, d] else [d]) ++ groupFromRight ds (i + 1)

/-- The grouped form of a whole number's digits (R61). -/
def grouped (ds : List Byte) : List Byte := (groupFromRight ds.reverse 0).reverse

/-- The digits of a whole number, grouped or plain (R61). -/
def wholeDigits (withCommas : Bool) (n : Nat) : List Byte :=
  if withCommas then grouped (digits n) else digits n

/-! ## Rescaling (R58, R59) -/

/-- The value rescaled from scale `s` to `d` places: exact multiplication when d ≥ s (R58), else division
rounded half away from zero (R59). -/
def rescale (v : Int) (s d : Nat) : Int :=
  if s ≤ d then v * 10 ^ (d - s)
  else
    let q := 10 ^ (s - d)
    let m := (2 * v.natAbs + q) / (2 * q)
    if v < 0 then -(m : Int) else (m : Int)

/-! ## The strings of each kind -/

/-- The sign of a DECIMAL or CHANGE string (R60, R62). -/
def signGlyphs (change : Bool) (m : Int) : List Byte :=
  if m < 0 then [gMinus] else if change ∧ 0 < m then [gPlus] else []

/-- The DECIMAL or CHANGE string of a rescaled m (R60, R62). -/
def decimalString (change : Bool) (d : Nat) (m : Int) (withCommas : Bool) : List Byte :=
  signGlyphs change m ++ wholeDigits withCommas (m.natAbs / 10 ^ d) ++
    (if d = 0 then [] else gPoint :: fixedDigits d (m.natAbs % 10 ^ d))

/-- The parts of a FRACTION value: whole part and number of parts of N, after the carry (R63 to R65). -/
def fractionParts (k : Nat) (half : Bool) (v : Int) (s : Nat) : Nat × Nat :=
  let parts := 2 ^ (k + half.toNat)
  let w := v.natAbs / 10 ^ s
  let r := v.natAbs % 10 ^ s
  let n := (2 * r * parts + 10 ^ s) / (2 * 10 ^ s)
  if n = parts then (w + 1, 0) else (w, n)

/-- The numerator digits of a FRACTION slot: as many as D − 1 has (R66). -/
def numeratorDigits (k : Nat) : Nat := (digits (2 ^ k - 1)).length

/-- The FRACTION string (R66, R67). -/
def fractionString (k : Nat) (half : Bool) (v : Int) (s : Nat) (withCommas : Bool) : List Byte :=
  let wn := fractionParts k half v s
  let t := if half then wn.2 / 2 else wn.2
  (if v < 0 ∧ ¬(wn.1 = 0 ∧ wn.2 = 0) then [gMinus] else []) ++ wholeDigits withCommas wn.1 ++
    [gMinus] ++ fixedDigits (numeratorDigits k) t ++
    (if half then [if wn.2 % 2 = 1 then gPlus else gSpace] else [])

/-- The whole count of a SIZE value: clamped to 0 when negative, then rescaled to 0 places (R68). -/
def sizeCount (v : Int) (s : Nat) : Nat := (rescale (if v < 0 then 0 else v) s 0).toNat

/-- The stages of a SIZE count that are tried: quotient and suffix (R69). -/
def sizeStages (n : Nat) : List (Nat × List Byte) :=
  (n, []) ::
    ([(n / 1000, [gKilo]), (n / 1000000, [gMega]), (n / 1000000000, [gGiga])].filter
      (fun e => decide (1 ≤ e.1)))

/-- Both forms of a string, in the order in which they are tried: grouped only when G is 1 (R61, R71). -/
def bothForms (group : Bool) (build : Bool → List Byte) : List (List Byte) :=
  if group then [build true, build false] else [build false]

/-- The strings tried for a numeric value, in order (R69, R71). A numeric value never reaches a TEXT slot
(R49). -/
def candidateStrings (fmt : Format) (s : Nat) (v : Int) : List (List Byte) :=
  match fmt.kind with
  | .decimal => bothForms fmt.group (decimalString false fmt.places (rescale v s fmt.places))
  | .change => bothForms fmt.group (decimalString true fmt.places (rescale v s fmt.places))
  | .fraction => bothForms fmt.group (fractionString fmt.expo fmt.half v s)
  | .size =>
    (sizeStages (sizeCount v s)).flatMap
      (fun st => bothForms fmt.group (fun c => wholeDigits c st.1 ++ st.2))
  | .text => []

/-! ## Fitting (R57, R69 to R72) -/

/-- What one run of the formatter returns (R57). -/
structure Formatted where
  glyphs : List Byte
  overflow : Bool
  clamp : Bool
deriving DecidableEq, Repr

/-- The first string that fits, right-justified in `w` glyphs; the overflow fill when none fits
(R69, R71, R72). -/
def fit (w : Nat) (candidates : List (List Byte)) : List Byte × Bool :=
  match candidates.find? (fun c => decide (c.length ≤ w)) with
  | some c => (List.replicate (w - c.length) gSpace ++ c, false)
  | none => (List.replicate w gHash, true)

/-- A TEXT value in `w` glyphs: cut at the right, or filled with spaces there (R70). -/
def fitText (w : Nat) (glyphs : List Byte) : List Byte :=
  glyphs.take w ++ List.replicate (w - glyphs.length) gSpace

/-- One run of the formatter (R56, R57). -/
def formatValue (fmt : Format) (w : Nat) : Value → Formatted
  | .text glyphs => { glyphs := fitText w glyphs, overflow := false, clamp := false }
  | .numeric s raw =>
    let r := fit w (candidateStrings fmt s raw.toInt)
    { glyphs := r.1, overflow := r.2, clamp := decide (fmt.kind = .size) && decide (raw.toInt < 0) }

/-! ## Tick comparison (R73 to R75) -/

/-- The two products that R73 compares: the old and the new value at the larger scale. -/
def tickProducts (sOld : Nat) (vOld : Int) (sNew : Nat) (vNew : Int) : Int × Int :=
  (vOld * 10 ^ (max sOld sNew - sOld), vNew * 10 ^ (max sOld sNew - sNew))

/-- The direction after a paint, and whether the paint is a change (R73, R74). -/
def tickOf (direction : Direction) (shown : Option Shown) (value : Value) : Direction × Bool :=
  match value, shown with
  | .numeric sNew vNew, some { value := .numeric sOld vOld, source := _ } =>
    let p := tickProducts sOld vOld.toInt sNew vNew.toInt
    if p.1 < p.2 then (.up, true) else if p.2 < p.1 then (.down, true) else (direction, false)
  | _, _ => (.none, false)

end Sys2Proof.Machine
end

