-- ==== Sys2Proof/Machine/Grant.lean ====
section
/-!
DEFINITION. The write-port arbiter (chapter 6.2): requests, grants, the end of a unit, and what a unit reads at its
grant. The completion of a paint, and the reading of a restyle, a repaint and an orphan close, are made here (R81 to
R83, R86, R102, R122, R141); the rows of the table that end the units write their cells and count (DEDUCED, log 7).
-/
namespace Sys2Proof.Machine

/-! ## A paint at its grant (R81 to R83) -/

/-- The highlight after a completed paint (R83). -/
def paintedHighlight (r : Slot) (stale change : Bool) (direction : Direction) (hold : Nat) : Highlight :=
  if stale then { r.highlight with stage := .none, remaining := 0 }
  else if r.rule = .tick ∧ change = true ∧ 1 ≤ hold then
    { stage := .flash, remaining := hold, flashUp := decide (direction = .up) }
  else r.highlight

/-- The slot after a completed paint of `value` from `source` (R82); `live` is the peer state of the source
read at this moment. -/
def paintedSlot (r : Slot) (value : Value) (source : Nat) (live : Bool) (hold : Nat) : Slot :=
  let tick := tickOf r.direction r.shown value
  { r with
    shown := some { value := value, source := source }
    direction := tick.1
    overflow := (formatValue r.format r.place.width value).overflow
    stale := !live
    highlight := paintedHighlight r (!live) tick.2 tick.1 hold
    restyle := false }

/-- The operation of slot `n` and generation `g` passes its completion checks (R38, R81, R86). -/
def State.passesChecks (s : State) (n : Nat) (g : BitVec 8) : Bool :=
  (s.slot n).bound && decide ((s.slot n).generation = g)

/-- A paint or restyle is granted: a paint that passes its checks updates its slot, and the unit's colours are
decided by the slot as it then stands (R81, R82, R86). -/
def State.grantPaint (s : State) : State :=
  match s.paint with
  | some (.paint n g value source _) =>
    if s.passesChecks n g then
      let r := paintedSlot (s.slot n) value source (decide ((s.peer source).state = .live)) s.control.config.hold
      { s.setSlot n r with port := { s.port with decided := .slot r } }
    else { s with port := { s.port with decided := .abandoned } }
  | some (.restyle n g) =>
    { s with port := { s.port with
      decided := if s.passesChecks n g then .slot (s.slot n) else .abandoned } }
  | none => s

/-! ## A repaint and an orphan close at their grants (R122, R141) -/

/-- The cell of the crawl row at column `x`, by P and the tape as they stand (R141). -/
def State.crawlCell (s : State) (x : Nat) : Cell :=
  let t := s.crawl.p + BitVec.ofNat 16 (s.control.config.tilePosition * 128 + x)
  let e := s.tapeAt (t.toNat % 1024)
  if e.valid = true ∧ e.index = t then
    { glyph := frameGlyph e.glyph, fg := e.fg, bg := e.bg, attrs := e.attrs }
  else
    { glyph := 32, fg := s.control.config.roles.crawlFg, bg := s.control.config.roles.crawlBg,
      attrs := attrsClear }

/-- A repaint is granted: it reads P and the tape. -/
def State.grantRepaint (s : State) : State :=
  { s with port := { s.port with decided := .row ((List.range 128).map s.crawlCell) } }

/-- How many levels, from the top down, have a requester that is SILENT (R122). -/
def State.silentTops (s : State) : Nat :=
  (s.overlay.levels.reverse.takeWhile (fun lv => decide ((s.peer lv.requester).state = .silent))).length

/-- An overlay request is granted: an orphan close reads the requesters; the others read nothing that another block
can change (R114, R122, R124). -/
def State.grantOverlay (s : State) : State :=
  match s.overlay.request with
  | some .orphan => { s with port := { s.port with decided := .closes s.silentTops } }
  | _ => s

/-! ## The arbiter (R101) -/

/-- The arbiter grants a writer's request: the unit holds the port and reads what it depends on (R101, R102). What
the text writer reads stands until its unit ends, for the dispatcher waits and the stack keeps (R106, R107). -/
def State.grant (s : State) (w : Writer) : State :=
  let s1 := { s with port := { s.port with holder := some w } }
  match w with
  | .overlay => s1.grantOverlay
  | .crawl => s1.grantRepaint
  | .paint => s1.grantPaint
  | .text => s1

/-- A writer presents its request: at a free port it is granted at once, at a held port it waits. -/
def State.present (s : State) (w : Writer) : State :=
  match s.port.holder with
  | none => s.grant w
  | some _ => s

/-- The unit that held the port has ended and its writer's request is gone: the next waiting request is
granted (R101). In HELD no grant is made (R152). -/
def State.release (s : State) : State :=
  let s1 := { s with port := { holder := none, decided := .standing } }
  if s.control.mode = .held then s1
  else match s.nextWaiting with
    | some w => s1.grant w
    | none => s1

end Sys2Proof.Machine
end

