-- ==== Sys2Proof/Machine/Lanes.lean ====
section
/-!
DEFINITION. Chapter 1: the two lane ports, the frame queue and the transmit queue, and the commands that
are events of a lane.
-/
namespace Sys2Proof.Machine

/-! ## Transmit queue (R9 to R12) -/

/-- A frame's send state for a lane. -/
def TxFrame.sendState (f : TxFrame) : Lane → SendState
  | .a => f.sendA
  | .b => f.sendB

/-- Set a frame's send state for a lane. -/
def TxFrame.setSend (f : TxFrame) (lane : Lane) (st : SendState) : TxFrame :=
  match lane with
  | .a => { f with sendA := st }
  | .b => { f with sendB := st }

/-- One of the frame's send states is WAITING. -/
def TxFrame.isWaiting (f : TxFrame) : Bool :=
  decide (f.sendA = .waiting) || decide (f.sendB = .waiting)

/-- The oldest frame WAITING for a lane (R9). -/
def State.firstWaiting (s : State) (lane : Lane) : Option TxFrame :=
  s.tx.frames.find? (fun f => decide (f.sendState lane = .waiting))

/-- The frame in hand of a lane's port (R13). -/
def State.handFrame (s : State) (lane : Lane) : Option TxFrame :=
  match (s.lanePort lane).hand with
  | none => none
  | some q => s.tx.frames.find? (fun f => decide (f.seq = q))

/-- Set the send state of the frame of sequence `q` for a lane; a frame leaves the queue as soon as
neither of its send states is WAITING (R9). -/
def State.markSend (s : State) (lane : Lane) (q : BitVec 16) (st : SendState) : State :=
  { s with tx := { s.tx with
      frames := (s.tx.frames.map (fun f => if f.seq = q then f.setSend lane st else f)).filter
        TxFrame.isWaiting } }

/-- The quiet gap of a class, in bit-times (R13). -/
def gapBits (cls : Nat) : Nat := 16 + 4 * cls

/-- The gap of the frame in hand of a lane's port. -/
def State.handGap (s : State) (lane : Lane) : Nat :=
  match s.handFrame lane with
  | some f => gapBits f.kind.frameClass
  | none => gapBits 0

/-- With a frame in hand: DEFER if carrier is present on the lane, GAP if it is quiet (R13, R15). -/
def State.contend (s : State) (lane : Lane) : State :=
  let p := s.lanePort lane
  s.setLanePort lane { p with tx := if p.carrier then .defer else .gap (s.handGap lane) }

/-- A port in IDLE that finds a frame WAITING for its lane takes the oldest in hand (R13). -/
def State.portTake (s : State) (lane : Lane) : State :=
  if s.isRunning ∧ (s.lanePort lane).tx = .idle then
    match s.firstWaiting lane with
    | some f => (s.setLanePort lane { s.lanePort lane with hand := some f.seq }).contend lane
    | none => s
  else s

/-- A frame takes a new place at the tail of the transmit queue, with its header completed, and an IDLE
port takes it (R9, R10, R13). -/
def State.queueFrame (s : State) (kind : TxKind) (dest : Nat) (payload : List Byte) : State :=
  let f : TxFrame :=
    { kind := kind, group := s.control.config.group, dest := dest, seq := s.tx.seq,
      restart := decide (s.tx.queued < 32), payload := payload, sendA := .waiting, sendB := .waiting }
  let s1 := { s with tx :=
    { frames := s.tx.frames ++ [f], seq := s.tx.seq + 1, queued := min 32 (s.tx.queued + 1) } }
  (s1.portTake .a).portTake .b

/-- Replace the payload of the earlier BEACON that is WAITING on both lanes, in place; none where there
is no such BEACON (R11). -/
def replaceBeacon (payload : List Byte) : List TxFrame → Option (List TxFrame)
  | [] => none
  | f :: rest =>
    if f.kind = .beacon ∧ f.sendA = .waiting ∧ f.sendB = .waiting then
      some ({ f with payload := payload } :: rest)
    else (replaceBeacon payload rest).map (fun fs => f :: fs)

/-- The group timer queues a BEACON (R11, R128): replaced in place, queued, or skipped; none while the
inhibit lasts (R12). -/
def State.queueBeacon (s : State) (payload : List Byte) : State :=
  if s.inhibited then s
  else match replaceBeacon payload s.tx.frames with
    | some fs => { s with tx := { s.tx with frames := fs } }
    | none =>
      if s.tx.frames.length < Config.transmitQueueSize then s.queueFrame .beacon 63 payload else s

/-- Queue a REPLY to a request of kind `kind` and sequence `seq` (R144, 11.3). While the queue is full or
transmission is inhibited it is dropped, and counter 47 increases (R11, R12). -/
def State.queueReply (s : State) (dest kind : Nat) (seq : BitVec 16) (code : ResultCode)
    (data : List Byte) : State :=
  if s.inhibited = true ∨ Config.transmitQueueSize ≤ s.tx.frames.length then s.bump 47 1
  else s.queueFrame .reply dest ([byteOf kind] ++ bytes16 seq ++ [byteOf code.code] ++ data)

/-! ## Ports -/

/-- The receive side when SEND ends or RUNNING is entered: ready, or waiting for the carrier present to
drop (R1). -/
def rxOpened (carrier : Bool) : RxState := if carrier then .ignoring else .ready

/-- The port is in SEND, including its jam and burst-hold gap (1.6). -/
def TxState.inSend : TxState → Bool
  | .sending _ | .jam _ _ | .holdGap => true
  | .idle | .defer | .gap _ | .backoff _ => false

/-- The inhibit begins at a port: it stops driving and goes to IDLE, counts 0 (R12). -/
def Port.inhibit (p : Port) (running : Bool) : Port :=
  { p with
    rx := if p.tx.inSend && running then rxOpened p.carrier else p.rx
    tx := .idle, hand := none, attempts := 0, hold := 0 }

/-- The inhibit begins: the transmit queue is emptied and both ports stop (R12). -/
def State.beginInhibit (s : State) : State :=
  { s with
    tx := { s.tx with frames := [] }
    portA := s.portA.inhibit s.isRunning
    portB := s.portB.inhibit s.isRunning }

/-- A port outside RUNNING: receive side closed, transmit side IDLE, counts 0; the carrier of other
stations stays what it is (R1, R17, R152). -/
def Port.stop (p : Port) : Port :=
  { p with rx := .closed, tx := .idle, hand := none, attempts := 0, hold := 0 }

/-- A port when RUNNING is entered (R1). -/
def Port.start (p : Port) : Port := { p with rx := rxOpened p.carrier }

/-- What a port drives on its lane; none while its driver is released: outside SEND, in the burst-hold gap, and
outside RUNNING (R162). -/
def State.driven (s : State) (lane : Lane) : Option (List BitTime) :=
  if s.isRunning then
    match (s.lanePort lane).tx with
    | .sending bytes => some (lineCode bytes)
    | .jam _ high => some (jamTimes high)
    | .idle | .defer | .gap _ | .holdGap | .backoff _ => none
  else none

/-! ## Reception (R1 to R7) -/

/-- The classes of R3. -/
inductive RxClass where
  | symbolError
  | undersize
  | fragment
  | oversize
  | jabber
  | crcError
  | malformed
  | good
deriving DecidableEq, Repr

/-- The class of a reception: the first test of R3 that applies. -/
def classify (bytes : List Byte) (violation : Bool) : RxClass :=
  if violation then .symbolError
  else if bytes.length < 8 then (if crcGood bytes then .undersize else .fragment)
  else if 128 < bytes.length then (if crcGood bytes then .oversize else .jabber)
  else if !crcGood bytes then .crcError
  else if (byteAt bytes 0).toNat / 4 = 63 ∨ bytes.length ≠ 8 + (byteAt bytes 5).toNat then .malformed
  else .good

/-- The counter of a class, as its Lane A number (R6). -/
def RxClass.counter : RxClass → Nat
  | .good => 0
  | .crcError => 2
  | .symbolError => 3
  | .undersize => 4
  | .fragment => 5
  | .oversize => 6
  | .jabber => 7
  | .malformed => 8

/-- The size bucket of a classified reception, as its Lane A counter number (R5). -/
def bucketOf (cls : RxClass) (len : Nat) : Option Nat :=
  if cls = .symbolError ∨ len < 8 ∨ 128 < len then none
  else some (if len ≤ 31 then 13 else if len ≤ 63 then 14 else 15)

/-- Count a classified reception in its class and its size bucket (R3, R5, R6). -/
def State.countReception (s : State) (lane : Lane) (cls : RxClass) (len : Nat) : State :=
  let s1 := s.bump (laneCounter lane cls.counter) 1
  match bucketOf cls len with
  | some k => s1.bump (laneCounter lane k) 1
  | none => s1

/-- A good frame: its octets, the wrong-lane test, and its place in the frame queue or its overrun
(R3, R5, R7). -/
def State.takeGood (s : State) (lane : Lane) (bytes : List Byte) : State :=
  let f : RxFrame := { bytes := bytes, lane := lane }
  let s1 := s.bump (laneCounter lane 1) bytes.length
  let s2 := if f.tag = lane then s1 else s1.bump (laneCounter lane 9) 1
  if s2.frameQueue.length < Config.frameQueueSize then { s2 with frameQueue := s2.frameQueue ++ [f] }
  else s2.bump (laneCounter lane 10) 1

/-- The carrier of other stations drops at a port: an ignoring or receiving side becomes ready, and DEFER
goes to GAP (R1, R13). -/
def State.dropCarrier (s : State) (lane : Lane) : State :=
  let p := s.lanePort lane
  s.setLanePort lane
    { p with
      carrier := false
      rx := if p.rx = .closed then .closed else .ready
      tx := if p.tx = .defer then .gap (s.handGap lane) else p.tx }

/-- CARRIER_ARRIVAL (R1, R13). -/
def execCarrierArrival (lane : Lane) (s : State) : Host.Outcome State Fault Refusal :=
  let p := s.lanePort lane
  if p.carrier then goOn s
  else
    goOn (s.setLanePort lane
      { p with
        carrier := true
        rx := if p.rx = .ready then .receiving else p.rx
        tx := match p.tx with | .gap _ => .defer | t => t })

/-- FRAME_END (R3, R5, R7, R162). -/
def execFrameEnd (lane : Lane) (times rest : List BitTime) (s : State) : Host.Outcome State Fault Refusal :=
  if (Instr.frameEnd lane times rest).wf = false then .refused (.illFormed "FRAME_END")
  else if (s.lanePort lane).rx = .receiving then
    let bytes := lineBytes times
    let cls := classify bytes (lineViolation (times ++ rest))
    let s1 := (s.dropCarrier lane).countReception lane cls bytes.length
    goOn (if cls = .good then s1.takeGood lane bytes else s1)
  else goOn s

/-- JABBER_CUTOFF (R4). -/
def execJabberCutoff (lane : Lane) (s : State) : Host.Outcome State Fault Refusal :=
  let p := s.lanePort lane
  if p.rx = .receiving then
    goOn ((s.setLanePort lane { p with rx := .ignoring }).bump (laneCounter lane 7) 1)
  else goOn s

/-- CARRIER_DROP (R4, R13): carrier that the receive side is ignoring drops. -/
def execCarrierDrop (lane : Lane) (s : State) : Host.Outcome State Fault Refusal :=
  let p := s.lanePort lane
  if p.carrier = true ∧ p.rx ≠ .receiving then goOn (s.dropCarrier lane) else goOn s

/-! ## Transmission (R13 to R16) -/

/-- GAP_EXPIRY (R13). -/
def execGapExpiry (lane : Lane) (s : State) : Host.Outcome State Fault Refusal :=
  let p := s.lanePort lane
  match p.tx, s.handFrame lane with
  | .gap _, some f =>
    goOn (s.setLanePort lane
      { p with rx := .closed, tx := .sending (f.encode s.control.config.station lane), hold := 1 })
  | _, _ => goOn s

/-- A frame has completed in SEND: the next held frame, or IDLE (R16). -/
def State.afterSent (s : State) (lane : Lane) : State :=
  let p := s.lanePort lane
  let toIdle := (s.setLanePort lane
    { p with rx := rxOpened p.carrier, tx := .idle, hand := none, attempts := 0, hold := 0 }).portTake lane
  match s.firstWaiting lane with
  | some f =>
    if p.hold < 3 then s.setLanePort lane { p with tx := .holdGap, hand := some f.seq, attempts := 0 }
    else toIdle
  | none => toIdle

/-- TRANSMIT_COMPLETE (R14, R16). -/
def execTransmitComplete (lane : Lane) (s : State) : Host.Outcome State Fault Refusal :=
  let p := s.lanePort lane
  match p.tx, p.hand with
  | .sending _, some q => goOn ((s.markSend lane q .sent).afterSent lane)
  | _, _ => goOn s

/-- HOLD_GAP_EXPIRY (R16). -/
def execHoldGapExpiry (lane : Lane) (s : State) : Host.Outcome State Fault Refusal :=
  let p := s.lanePort lane
  match p.tx, s.handFrame lane with
  | .holdGap, some f =>
    goOn (s.setLanePort lane
      { p with tx := .sending (f.encode s.control.config.station lane), hold := p.hold + 1 })
  | _, _ => goOn s

/-- COLLISION (R14). The level with which the jam begins is drawn, for each collision anew (R162; DESIGN CHOICE, log 19,
safe). -/
def execCollision (lane : Lane) (s : State) : Host.Outcome State Fault Refusal :=
  let p := s.lanePort lane
  match p.tx, p.hand with
  | .sending _, some q =>
    let high := Config.freeJamLevel s.freeCount
    let s1 := { s.bump (laneCounter lane 11) 1 with freeCount := s.freeCount + 1 }
    if 8 ≤ p.attempts + 1 then
      goOn (((s1.markSend lane q .abandoned).bump (laneCounter lane 12) 1).setLanePort lane
        { p with tx := .jam true high, hand := none, attempts := 0, hold := 0 })
    else
      goOn (s1.setLanePort lane { p with tx := .jam false high, attempts := p.attempts + 1, hold := 0 })
  | _, _ => goOn s

/-- The slots that BACKOFF waits (R15). -/
def backoffSlots (station attempts : Nat) : Nat := (station + attempts) % 2 ^ min attempts 4

/-- JAM_END (R14, R15). -/
def execJamEnd (lane : Lane) (s : State) : Host.Outcome State Fault Refusal :=
  let p := s.lanePort lane
  match p.tx with
  | .jam true _ =>
    goOn ((s.setLanePort lane { p with rx := rxOpened p.carrier, tx := .idle }).portTake lane)
  | .jam false _ =>
    let b := backoffSlots s.control.config.station p.attempts
    let s1 := s.setLanePort lane { p with rx := rxOpened p.carrier, tx := .backoff b }
    goOn (if b = 0 then s1.contend lane else s1)
  | _ => goOn s

/-- BACKOFF_EXPIRY (R15). -/
def execBackoffExpiry (lane : Lane) (s : State) : Host.Outcome State Fault Refusal :=
  match (s.lanePort lane).tx with
  | .backoff _ => goOn (s.contend lane)
  | _ => goOn s

end Sys2Proof.Machine
end

