-- ==== Sys2Proof/Machine/Paint.lean ====
section
/-!
DEFINITION. Chapter 5: the paint unit's choice of work, the colours of a slot's cells, the write units of a paint
and a restyle, and highlight ageing.
-/
namespace Sys2Proof.Machine

/-! ## Choice of work (R78 to R80, R85) -/

/-- Slot `n` is offered for a restyle (R78). -/
def State.offersRestyle (s : State) (n : Nat) : Bool := (s.slot n).bound && (s.slot n).restyle

/-- The pending value that slot `n` offers for a paint: BOUND, priority 1 to 7 (R78). -/
def State.offersPaint (s : State) (n : Nat) : Option Pending :=
  if (s.slot n).bound = true ∧ 1 ≤ (s.slot n).priority then (s.slot n).pending else none

/-- The restyle that is chosen: the lowest slot number (R79). -/
def State.restyleChoice (s : State) : Option Nat := (List.range 256).find? s.offersRestyle

/-- Slot `n` with pending value `p` goes before slot `m` with `q`, where m < n (R79): a higher priority, or
the same and a smaller arrival stamp. -/
def State.goesBefore (s : State) (n : Nat) (p : Pending) (m : Nat) (q : Pending) : Bool :=
  decide ((s.slot m).priority < (s.slot n).priority) ||
    (decide ((s.slot m).priority = (s.slot n).priority) && decide (p.stamp < q.stamp))

/-- The paint that is chosen: highest priority, then smallest stamp, then lowest slot number (R79). -/
def State.paintChoice (s : State) : Option (Nat × Pending) :=
  (List.range 256).foldl
    (fun best n =>
      match s.offersPaint n, best with
      | none, _ => best
      | some p, none => some (n, p)
      | some p, some (m, q) => if s.goesBefore n p m q then some (n, p) else best)
    none

/-- The paint unit takes a restyle of slot `n` (R85). -/
def State.takeRestyle (s : State) (n : Nat) : State :=
  let r := s.slot n
  ({ (s.setSlot n { r with restyle := false }) with paint := some (.restyle n r.generation) }).present
    .paint

/-- The paint unit takes a paint of slot `n` (R80). -/
def State.takePaint (s : State) (n : Nat) (p : Pending) : State :=
  let r := s.slot n
  ({ (s.setSlot n { r with pending := none }) with
      paint := some (.paint n r.generation p.value p.source p.stamp) }).present .paint

/-- While RUNNING and IDLE, the paint unit takes the work that R79 chooses, if any is offered (R78). -/
def State.paintTake (s : State) : State :=
  if s.isRunning ∧ s.paint = none then
    match s.restyleChoice with
    | some n => s.takeRestyle n
    | none =>
      match s.paintChoice with
      | some (n, p) => s.takePaint n p
      | none => s
  else s

/-! ## Colours (R90, R91) -/

/-- The sign of a shown value's raw integer, for the SIGN rule (R90). -/
def shownSign : Option Shown → Int
  | some { value := .numeric _ raw, source := _ } => raw.toInt
  | _ => 0

/-- The foreground of a slot's cells (R90). -/
def slotFg (roles : Roles) (r : Slot) : Colour :=
  if r.stale then roles.stale
  else if r.overflow then roles.overflow
  else match r.rule with
    | .tick => match r.direction with
      | .up => roles.up
      | .down => roles.down
      | .none => r.base.fg
    | .sign =>
      if 0 < shownSign r.shown then roles.up
      else if shownSign r.shown < 0 then roles.down
      else r.base.fg
    | .plain => r.base.fg

/-- The background of a slot's cells (R91). -/
def slotBg (roles : Roles) (r : Slot) : Colour :=
  match r.highlight.stage with
  | .none => r.base.bg
  | .flash => if r.highlight.flashUp then roles.flashUp else roles.flashDown
  | .fade1 => roles.fade1
  | .fade2 => roles.fade2
  | .fade3 => roles.fade3

/-- The base attributes with inverse clear (R84, R86, R91). -/
def Slot.cellAttrs (r : Slot) : Attrs := { r.base.attrs with inverse := false }

/-- A cell of a slot with a glyph (R84, R86). -/
def slotCell (roles : Roles) (r : Slot) (glyph : BitVec 9) : Cell :=
  { glyph := glyph, fg := slotFg roles r, bg := slotBg roles r, attrs := r.cellAttrs }

/-! ## The write units of a paint and a restyle (R81, R84, R86) -/

/-- The cells that a paint writes: the formatter's glyphs from the leftmost cell on, all in the slot's
colours (R84). -/
def paintWrites (roles : Roles) (r : Slot) (glyphs : List Byte) : List (Nat × Cell) :=
  (r.place.cells.zip glyphs).map (fun e => (e.1, slotCell roles r (frameGlyph e.2)))

/-- What the write unit of a granted paint does: the cells, in the glyphs and colours that its grant decided, and the
counters; or it is abandoned and counted (R81, R84, R76). -/
def State.applyPaint (s : State) (value : Value) : State :=
  match s.port.decided with
  | .slot r =>
    let f := formatValue r.format r.place.width value
    let s1 := s.writeBaseAll (paintWrites s.control.config.roles r f.glyphs)
    ((s1.bump 40 1).bumpIf f.overflow 42).bumpIf f.clamp 44
  | _ => s.bump 41 1

/-- What the write unit of a granted restyle does: the colours that its grant decided, each cell keeping its glyph;
nothing when it is abandoned (R86). -/
def State.applyRestyle (s : State) : State :=
  match s.port.decided with
  | .slot r =>
    s.writeBaseAll (r.place.cells.map
      (fun i => (i, slotCell s.control.config.roles r (s.baseCell i).glyph)))
  | _ => s

/-! ## Highlight ageing (R92, R93) -/

/-- A highlight at a frame start: the frames remaining of a running stage decrease by 1 (R92). -/
def Highlight.age (h : Highlight) : Highlight :=
  if h.stage = .none then h else { h with remaining := h.remaining - 1 }

/-- A stage whose frames remaining have reached 0 moves on (R93). -/
def Highlight.move (fade : Nat) (h : Highlight) : Highlight :=
  match h.stage with
  | .flash => if 1 ≤ fade then { h with stage := .fade1, remaining := fade }
              else { h with stage := .none, remaining := 0 }
  | .fade1 => { h with stage := .fade2, remaining := fade }
  | .fade2 => { h with stage := .fade3, remaining := fade }
  | .fade3 | .none => { h with stage := .none, remaining := 0 }

/-- Slot `n`'s highlight has reached 0 frames remaining and is to move on (R92). -/
def State.moveDue (s : State) (n : Nat) : Bool :=
  decide ((s.slot n).highlight.stage ≠ .none) && decide ((s.slot n).highlight.remaining = 0)

/-- A highlight move of slot `n`: the next stage, and restyle-pending (R92, R93). -/
def State.moveHighlight (s : State) (n : Nat) : State :=
  if s.moveDue n then
    let r := s.slot n
    (s.setSlot n { r with highlight := r.highlight.move s.control.config.fade, restyle := true }).paintTake
  else s

end Sys2Proof.Machine
end

