-- ==== Sys2Proof/Machine/FieldTable.lean ====
section
/-!
DEFINITION. Chapter 3: item matching and conflation, the LAYOUT operations, stale marks, and what a warm
reset does to the slots.
-/
namespace Sys2Proof.Machine

/-! ## Items (R48 to R51) -/

/-- The slot is a match for an item of this sender, instrument and field code (R48). -/
def Slot.isMatch (r : Slot) (sender instrument field : Nat) : Bool :=
  r.bound && decide (r.key.instrument = instrument) && decide (r.key.field = field) &&
    (decide (r.key.source = sender) || decide (r.key.source = 63))

/-- The item's type and scale suit the slot's kind (R49). -/
def suitsKind (kind : FormatKind) : Value → Bool
  | .text _ => decide (kind = .text)
  | .numeric scale _ => decide (kind ≠ .text) && decide (scale ≤ 9)

/-- One match judged: rejected, set or conflated, and counted (R49, R50). -/
def State.applyMatch (s : State) (n sender : Nat) (v : Value) : State :=
  let r := s.slot n
  if suitsKind r.format.kind v then
    match r.pending with
    | none =>
      (({ s with fields := { s.fields with stamp := s.fields.stamp + 1 } }).setSlot n
        { r with pending := some { value := v, source := sender, stamp := s.fields.stamp } }).bump 37 1
    | some old =>
      ((s.setSlot n { r with pending := some { old with value := v, source := sender } }).bump 37 1).bump
        39 1
  else s.bump 43 1

/-- The slots that an item matches (R48). -/
def State.matchesOf (s : State) (sender instrument field : Nat) : List Nat :=
  (List.range 256).filter (fun n => (s.slot n).isMatch sender instrument field)

/-- The matches of an item in the order in which they are judged: a free order (log 10). -/
def State.inFreeOrder (s : State) (ns : List Nat) : List Nat :=
  ns.insertionSort (fun a b => Config.freeRank s.freeCount a ≤ Config.freeRank s.freeCount b)

/-- One item applied to every slot that it matches, or counted unmatched (R48). -/
def State.applyItem (s : State) (sender instrument : Nat) (it : Item) : State :=
  match s.matchesOf sender instrument it.field with
  | [] => s.bump 38 1
  | n :: ns =>
    (s.inFreeOrder (n :: ns)).foldl (fun acc m => acc.applyMatch m sender it.value)
      { s with freeCount := s.freeCount + 1 }

/-- The items of a QUOTE frame, one at a time, in payload order (R48). -/
def State.applyItems (s : State) (sender instrument : Nat) (items : List Item) : State :=
  items.foldl (fun acc it => acc.applyItem sender instrument it) s

/-! ## Stale marks (R33, R34, R53) -/

/-- The slot is BOUND with a shown value whose last source is `p`. -/
def Slot.shows (r : Slot) (p : Nat) : Bool :=
  r.bound && match r.shown with
    | some v => decide (v.source = p)
    | none => false

/-- A slot at the silence event of `p` (R53). -/
def Slot.onSilence (p : Nat) (r : Slot) : Slot :=
  if r.shows p then
    { r with stale := true, highlight := { r.highlight with stage := .none, remaining := 0 }, restyle := true }
  else r

/-- A slot at the return event of `p` (R53). -/
def Slot.onReturn (p : Nat) (r : Slot) : Slot :=
  if r.shows p then { r with stale := false, restyle := true } else r

/-! ## LAYOUT operations (R41 to R46) -/

/-- The format fields suit the kind (R42). -/
def formatSuits (kind : FormatKind) (op : BindOp) : Bool :=
  match kind with
  | .decimal | .change => decide (op.places ≤ 6) && decide (op.expo = 0) && !op.half
  | .fraction =>
    decide (1 ≤ op.expo) && decide (op.expo ≤ 8) && (!op.half || decide (op.expo ≤ 7)) &&
      decide (op.places = 0)
  | .size => decide (op.places = 0) && decide (op.expo = 0) && !op.half
  | .text => decide (op.places = 0) && decide (op.expo = 0) && !op.half && !op.group

/-- The kind and colour rule of a BIND whose every field lies in its range (R42 test 1, R160). -/
def bindRange (op : BindOp) : Option (FormatKind × ColourRule) :=
  match FormatKind.ofCode op.kindCode, ColourRule.ofCode op.ruleCode with
  | some kind, some rule =>
    if op.source ≤ 63 ∧ op.instrument ≤ 4095 ∧ op.field ≤ 31 ∧ op.row ≤ 47 ∧ op.col ≤ 127 ∧
        1 ≤ op.width ∧ op.width ≤ 16 ∧ op.col + op.width ≤ 128 ∧ op.priority ≤ 7 ∧ op.spare = 0 ∧
        op.attrs.toNat < 8 ∧ formatSuits kind op = true then some (kind, rule)
    else none
  | _, _ => none

/-- The placement of a BIND. -/
def BindOp.place (op : BindOp) : Placement := { row := op.row, col := op.col, width := op.width }

/-- A cell is owned by a slot other than `n` (R42 test 4). -/
def otherSlotOwns (n : Nat) : Owner → Bool
  | .slot m => decide (m ≠ n)
  | .none | .crawl => false

/-- The result of testing a BIND: DONE when it passes, else the code of the first test that fails (R42). -/
def State.bindTest (s : State) (op : BindOp) : ResultCode :=
  match bindRange op with
  | none => .range
  | some (kind, rule) =>
    if kind = .text ∧ rule ≠ .plain then .rule
    else if s.control.config.crawlRow = some op.row then .crawlRow
    else if op.place.cells.any (fun i => otherSlotOwns op.slot (s.ownerOf i)) then .overlap
    else if (s.slot op.slot).bound then .slotBusy
    else .done

/-- The slot record that a BIND leaves (R43). -/
def boundSlot (r : Slot) (op : BindOp) (kind : FormatKind) (rule : ColourRule) : Slot :=
  { r with
    bound := true
    generation := r.generation + 1
    key := { source := op.source, instrument := op.instrument, field := op.field }
    place := op.place
    format := { kind := kind, places := op.places, expo := op.expo, half := op.half, group := op.group }
    rule := rule
    priority := op.priority
    base := { fg := op.fg, bg := op.bg, attrs := attrsOfByte op.attrs }
    shown := none
    direction := .none
    highlight := { r.highlight with stage := .none, remaining := 0 }
    stale := false
    overflow := false
    restyle := false
    pending := none }

/-- Mark cells in the owner map (R39). -/
def State.markOwner (s : State) (cells : List Nat) (o : Owner) : State :=
  { s with store := { s.store with
      owner := storeSetAll Owner.none s.store.owner (cells.map (fun i => (i, o))) } }

/-- A BIND that passes its tests: the slot and the owner map, and the fill handed to the text writer
(R43, R44). -/
def State.carryBind (s : State) (op : BindOp) (kind : FormatKind) (rule : ColourRule) : State :=
  let r := boundSlot (s.slot op.slot) op kind rule
  ({ ((s.setSlot op.slot r).markOwner op.place.cells (.slot op.slot)) with
      text := some (.fill r.place r.base) }).present .text

/-- The slot record that an UNBIND leaves (R45). -/
def freedSlot (r : Slot) : Slot :=
  { r with
    bound := false
    shown := none
    direction := .none
    highlight := { r.highlight with stage := .none, remaining := 0 }
    stale := false
    overflow := false
    restyle := false
    pending := none }

/-- One LAYOUT operation: the state after it, its outcome for the REPLY, and whether its fill has been
presented (R41 to R46). -/
def State.layoutOp (s : State) (op : LayoutOp) : State × OpResult × Bool :=
  match op with
  | .bind b =>
    match s.bindTest b, bindRange b with
    | .done, some (kind, rule) =>
      let s' := s.carryBind b kind rule
      (s', { slot := b.slot, code := .done, generation := (s'.slot b.slot).generation }, true)
    | code, _ =>
      (s, { slot := b.slot, code := code, generation := (s.slot b.slot).generation }, false)
  | .unbind n =>
    let r := s.slot n
    if r.bound then
      ((s.markOwner r.place.cells .none).setSlot n (freedSlot r),
        { slot := n, code := .done, generation := r.generation }, false)
    else (s, { slot := n, code := .slotFree, generation := r.generation }, false)
  | .level n prio =>
    let r := s.slot n
    if 7 < prio then (s, { slot := n, code := .range, generation := r.generation }, false)
    else if r.bound then
      ((s.setSlot n { r with priority := prio }).paintTake,
        { slot := n, code := .done, generation := r.generation }, false)
    else (s, { slot := n, code := .slotFree, generation := r.generation }, false)

/-- The result code of a LAYOUT REPLY: DONE, or the code of the first refusal (R41). -/
def layoutCode (results : List OpResult) : ResultCode :=
  match results.find? (fun r => decide (r.code ≠ .done)) with
  | some r => r.code
  | none => .done

/-- The data of a LAYOUT REPLY (R41, 11.3). -/
def layoutData (results : List OpResult) : List Byte :=
  byteOf results.length ::
    results.flatMap (fun r => [byteOf r.slot, byteOf r.code.code, r.generation])

/-- An operation is complete: the next is to be taken, or the REPLY is queued and the dispatcher is
finished with the frame (R41). -/
def State.layoutAdvance (s : State) (job : LayoutJob) : State :=
  match job.remaining with
  | [] =>
    ({ s with hand := .idle }).queueReply job.sender kindLayout job.seq (layoutCode job.results)
      (layoutData job.results)
  | _ :: _ => { s with hand := .layout job }

/-- Take the next operation of a LAYOUT frame (R41). A BIND that is carried out leaves the dispatcher
waiting for its fill (R44). -/
def State.layoutTake (s : State) (job : LayoutJob) : State :=
  match job.remaining with
  | [] => s.layoutAdvance job
  | op :: rest =>
    let out := s.layoutOp op
    let job' := { job with remaining := rest, results := job.results ++ [out.2.1] }
    if out.2.2 then { out.1 with hand := .layoutFill job' } else out.1.layoutAdvance job'

/-- The operation code of a LAYOUT operation (11.2). -/
def LayoutOp.code : LayoutOp → Nat
  | .bind _ => 1
  | .unbind _ => 2
  | .level _ _ => 3

/-! ## Warm reset (R54) -/

/-- A slot at a warm reset (R54). -/
def Slot.onWarmReset (r : Slot) : Slot :=
  { r with
    pending := none
    highlight := { r.highlight with stage := .none, remaining := 0 }
    stale := if r.bound && r.shown.isSome then true else r.stale
    restyle := r.bound && r.shown.isSome }

/-- The slots at a warm reset. The slot of a paint or restyle whose unit was granted before the reset is
left out: R54's changes are made to it when that unit ends (R54, R89). -/
def State.fieldWarmReset (s : State) : State :=
  let left : Option Nat :=
    if s.port.holder = some .paint then
      match s.paint with
      | some (.paint n _ _ _ _) => some n
      | some (.restyle n _) => some n
      | none => none
    else none
  let s1 := s.mapSlots Slot.onWarmReset
  match left with
  | some n => s1.setSlot n (s.slot n)
  | none => s1

end Sys2Proof.Machine
end

