-- ==== Sys2Proof/Machine/GroupTimer.lean ====
section
/-!
DEFINITION. Chapter 8: the election, beacons, adoption, the tape, crawl steps and the crawl row.
-/
namespace Sys2Proof.Machine

/-! ## Election (R129, R130) -/

/-- The election on the state as it stands: the lowest-numbered candidate is the reference (R130). -/
def State.elect (s : State) : State :=
  match s.candidates.head? with
  | none => { s with group := { s.group with timing := .free, reference := 63 } }
  | some p =>
    { s with group := { s.group with
        timing := if p = s.control.config.station then .leading else .following
        reference := p } }

/-! ## The crawl row on screen (R141) -/

/-- A repaint of the crawl row is needed: presented, left to the waiting request, or remembered by the
repeat mark while one is being applied (R141). No block presents a request outside RUNNING (R104, R152). -/
def State.needRepaint (s : State) : State :=
  if !s.crawlEnabled || !s.isRunning then s
  else if !s.crawl.request then
    ({ s with crawl := { s.crawl with request := true } }).present .crawl
  else if s.port.holder = some .crawl then
    { s with crawl := { s.crawl with repeatMark := true } }
  else s

/-- What the write unit of a granted repaint does: the cells of the crawl row that its grant decided (R141). -/
def State.applyRepaint (s : State) : State :=
  match s.port.decided, s.control.config.crawlRow with
  | .row cells, some row => s.setCells (((List.range 128).zip cells).map (fun e => (cellKey row e.1, e.2)))
  | _, _ => s

/-! ## Steps and adoption (R138 to R140) -/

/-- A crawl step (R138). -/
def State.stepCrawl (s : State) : State :=
  let k := s.crawl.p.toNat % 1024
  let s1 := s.setTape k { s.tapeAt k with valid := false }
  ({ s1 with crawl := { s1.crawl with p := s1.crawl.p + 1 } }).needRepaint

/-- Take a phase tick that calls for a crawl step, if one is outstanding (R127, R139). -/
def State.takeTick (s : State) : State :=
  if s.crawl.tickDue then ({ s with crawl := { s.crawl with tickDue := false } }).stepCrawl else s

/-- A tape entry at the adoption of P: invalid when its distance from the new P is 1,024 or more
(R140). -/
def TapeEntry.onAdopt (p : BitVec 16) (e : TapeEntry) : TapeEntry :=
  if e.valid = true ∧ 1024 ≤ (e.index - p).toNat then { e with valid := false } else e

/-- The crawl engine adopts P (R140). -/
def State.adoptP (s : State) (p : BitVec 16) : State :=
  if s.crawl.p = p then s
  else
    ({ s with crawl := { s.crawl with
        p := p, tape := storeMap TapeEntry.cold (TapeEntry.onAdopt p) s.crawl.tape } }).needRepaint

/-- The group timer adopts a phase count (R133). -/
def State.adoptPhase (s : State) (phase : BitVec 16) : State :=
  if s.group.phase = phase then s
  else { s with group := { s.group with
          phase := phase, corrections := min 65535 (s.group.corrections + 1) } }

/-! ## Placement (R137) -/

/-- One glyph of a CRAWL frame: stored, or dropped and counted (R137). -/
def State.placeGlyph (s : State) (c : CrawlText) (j : Nat) (g : Byte) : State :=
  let t := c.first + BitVec.ofNat 16 j
  if (t - s.crawl.p).toNat < 1024 then
    s.setTape (t.toNat % 1024)
      { valid := true, index := t, glyph := g, fg := c.fg, bg := c.bg, attrs := c.attrs }
  else s.bump 45 1

/-- Glyphs of a CRAWL frame from glyph `j` on, in order (R137). -/
def State.placeFrom (c : CrawlText) : Nat → List Byte → State → State
  | _, [], s => s
  | j, g :: gs, s => State.placeFrom c (j + 1) gs (s.placeGlyph c j g)

/-- Glyph `j` of a CRAWL frame is stored in the slice that this monitor shows (R137). -/
def State.inView (s : State) (c : CrawlText) (j : Nat) : Bool :=
  let a := (c.first + BitVec.ofNat 16 j - s.crawl.p).toNat
  decide (a < 1024) && decide (s.control.config.tilePosition * 128 ≤ a) &&
    decide (a ≤ s.control.config.tilePosition * 128 + 127)

/-- The crawl engine takes a CRAWL frame (R136, R137). -/
def State.takeCrawl (s : State) (f : RxFrame) : State :=
  match parseCrawl f.payload with
  | none => s.countUnusable
  | some c =>
    if s.crawlEnabled then
      let s1 := State.placeFrom c 0 c.glyphs s
      if (List.range c.glyphs.length).any (s.inView c) then s1.needRepaint else s1
    else s.countUnusable

/-! ## Beacons (R127, R128, R132, R133) -/

/-- The payload of a BEACON: phase count, then P (R128). -/
def State.beaconPayload (s : State) : List Byte := bytes16 s.group.phase ++ bytes16 s.crawl.p

/-- A BEACON is due: the countdown has reached 0 (R127). -/
def State.beaconIsDue (s : State) : Bool := s.isRunning && decide (s.group.countdown = 0)

/-- The BEACON that is due: the crawl engine's answer to the same tick first, the countdown set again, and
the BEACON queued, replaced or skipped (R11, R127, R128). -/
def State.sendBeacon (s : State) : State :=
  if s.beaconIsDue then
    let s1 := s.takeTick
    ({ s1 with group := { s1.group with countdown := s1.control.config.interval } }).queueBeacon
      s1.beaconPayload
  else s

/-- The group timer takes a BEACON that passed the address filter: adopted when FOLLOWING its sender
(R132, R133). What an earlier tick called for is taken first (log 9). -/
def State.takeBeacon (s : State) (f : RxFrame) : State :=
  match parseBeacon f.payload with
  | none => s.countUnusable
  | some (phase, p) =>
    if s.group.timing = .following ∧ s.group.reference = f.sender then
      ((s.takeTick.sendBeacon).adoptPhase phase).adoptP p
    else s

end Sys2Proof.Machine
end

