-- ==== Sys2Proof/Machine/Overlay.lean ====
section
/-!
DEFINITION. Chapter 7: what OPEN, CLOSE, CLOSE_ALL and orphan close do to the stack, the save area, the
cover map and the screen; what the scan engine reads meanwhile (R109); the orphan check; the answers.
-/
namespace Sys2Proof.Machine

/-! ## Rectangles -/

/-- The cells of a level's rectangle, row-major (00_scope.md "Screen coordinates"). -/
def Level.cells (lv : Level) : List Nat :=
  (List.range lv.height).flatMap
    (fun y => (List.range lv.width).map (fun x => cellKey (lv.top + y) (lv.left + x)))

/-- The glyph that OPEN draws at row `y` and column `x` of a level's rectangle (R116 step 4). -/
def Level.fillGlyph (lv : Level) (y x : Nat) : BitVec 9 :=
  if !lv.border then 32
  else if y = 0 then
    (if x = 0 then 256 else if x + 1 = lv.width then 257 else 260)
  else if y + 1 = lv.height then
    (if x = 0 then 258 else if x + 1 = lv.width then 259 else 260)
  else if x = 0 ∨ x + 1 = lv.width then 261
  else 32

/-- The cell that OPEN draws at a cell of the level's rectangle (R116 step 4). -/
def Level.fillCell (lv : Level) (i : Nat) : Cell :=
  { glyph := lv.fillGlyph (i / 128 - lv.top) (i % 128 - lv.left)
    fg := lv.fillFg, bg := lv.fillBg, attrs := attrsClear }

/-! ## OPEN (R115, R116) -/

/-- The fields of an OPEN lie in their ranges (R115 test 2, R160). -/
def OpenOp.inRange (op : OpenOp) : Bool :=
  decide (op.top ≤ 47) && decide (op.left ≤ 127) &&
    decide (1 ≤ op.height) && decide (op.height ≤ 46) && decide (1 ≤ op.width) && decide (op.width ≤ 128) &&
    decide (op.top + op.height ≤ 48) && decide (op.left + op.width ≤ 128) &&
    decide (op.flags.toNat < 2) &&
    (!op.flags.getLsbD 0 || (decide (3 ≤ op.height) && decide (3 ≤ op.width)))

/-- The crawl row lies within the rows of an OPEN (R115 test 3). -/
def OpenOp.coversRow (op : OpenOp) : Option Nat → Bool
  | none => false
  | some row => decide (op.top ≤ row) && decide (row < op.top + op.height)

/-- The result of testing an OPEN: DONE when it passes, else the code of the first test that fails
(R115). -/
def State.openTest (s : State) (op : OpenOp) : ResultCode :=
  if Config.maxDepth ≤ s.overlay.levels.length then .stackFull
  else if !op.inRange then .range
  else if op.coversRow s.control.config.crawlRow then .crawlRow
  else if Config.saveAreaSize < s.overlay.used + op.height * op.width then .saveFull
  else .done

/-- The level record of an OPEN (R116 step 1). -/
def OpenOp.level (op : OpenOp) (requester used : Nat) : Level :=
  { top := op.top, left := op.left, height := op.height, width := op.width,
    border := op.flags.getLsbD 0, fillFg := op.fg, fillBg := op.bg, requester := requester,
    offset := used, length := op.height * op.width }

/-- What a granted OPEN does (R116). -/
def State.applyOpen (s : State) (op : OpenOp) (requester : Nat) : State :=
  let lv := op.level requester s.overlay.used
  let n := s.overlay.levels.length + 1
  let cells := lv.cells
  { s with
    overlay := { s.overlay with
      levels := s.overlay.levels ++ [lv]
      used := s.overlay.used + lv.length
      save := storeSetAll cellBlank s.overlay.save (cells.map (fun i => (lv.recordOf i, s.cell i))) }
    store := { s.store with
      cells := storeSetAll cellBlank s.store.cells (cells.map (fun i => (i, lv.fillCell i)))
      cover := storeSetAll 0 s.store.cover
        ((cells.filter (fun i => decide (s.coverOf i = 0))).map (fun i => (i, n))) } }

/-! ## CLOSE, CLOSE_ALL, orphan close (R117, R118, R122) -/

/-- Close the top level, steps 1 to 3 of R117. -/
def State.closeTop (s : State) : State :=
  match s.overlay.levels.getLast? with
  | none => s
  | some lv =>
    let n := s.overlay.levels.length
    let cells := lv.cells
    { s with
      overlay := { s.overlay with
        levels := s.overlay.levels.dropLast
        used := s.overlay.used - lv.length }
      store := { s.store with
        cells := storeSetAll cellBlank s.store.cells (cells.map (fun i => (i, s.saved (lv.recordOf i))))
        cover := storeMap 0 (fun k => if k = n then 0 else k) s.store.cover } }

/-- Close the top level this many times. -/
def State.closeTops : Nat → State → State
  | 0, s => s
  | n + 1, s => State.closeTops n s.closeTop

/-- The cells of the screen after each of this many closes, from the top down (R117, R118, R122, R124). -/
def State.closeStages : Nat → State → List (Store Cell)
  | 0, _ => []
  | n + 1, s => s.closeTop.store.cells :: State.closeStages n s.closeTop

/-- The levels that the overlay unit's granted unit closes, in the stack's order: the top one of a CLOSE, every one of a
CLOSE_ALL and of the unwinding, those that its grant decided of an orphan close (R117, R118, R122, R124). -/
def State.closing (s : State) : List Level :=
  match s.port.holder, s.overlay.request with
  | some .overlay, some .close => s.overlay.levels.drop (s.overlay.levels.length - 1)
  | some .overlay, some .closeAll | some .overlay, some .unwinding => s.overlay.levels
  | some .overlay, some .orphan => match s.port.decided with
    | .closes k => s.overlay.levels.drop (s.overlay.levels.length - k)
    | _ => []
  | _, _ => []

/-- The display frame after a write unit that took the painter from `s` to `t`: the scan engine has read on to a free
place while the unit was being applied, and it read each cell as it stands before the unit, as the unit leaves it, or
between the closes of two levels that the unit closes (R102, R109; log 15). No other unit writes a cell twice. -/
def State.scanned (t s : State) : State :=
  let n := max s.scan.read (min Config.cellCount (Config.freeScan s.freeCount))
  { t with
    scan := { t.scan with
      frame := s.readOn (State.closeStages s.closing.length s ++ [t.store.cells]) n, read := n }
    freeCount := s.freeCount + 1 }

/-- Close every open level, from the top down (R118, R124). -/
def State.closeAll (s : State) : State := State.closeTops s.overlay.levels.length s

/-- The orphan check: with no request in hand, an orphan close is taken and presented when the top
level's requester is SILENT (R121). No block presents a request outside RUNNING (R104, R124, R152). -/
def State.orphanCheck (s : State) : State :=
  if s.isRunning ∧ s.overlay.request = none ∧ 1 ≤ s.silentTops then
    ({ s with overlay := { s.overlay with request := some .orphan } }).present .overlay
  else s

/-! ## Answers (R119) -/

/-- The data of an OVERLAY REPLY: operation, level concerned, depth, count in use (R119, 11.3). -/
def State.overlayData (s : State) (op level : Nat) : List Byte :=
  [byteOf op, byteOf level, byteOf s.overlay.levels.length] ++ bytes16 (BitVec.ofNat 16 s.overlay.used)

/-- Queue the REPLY to an OVERLAY operation, with the depth and count in use as they stand (R119). -/
def State.overlayReply (s : State) (sender : Nat) (seq : BitVec 16) (op level : Nat) (code : ResultCode) :
    State :=
  s.queueReply sender kindOverlay seq code (s.overlayData op level)

/-- The operation code of an OVERLAY operation (11.2). -/
def OverlayOp.code : OverlayOp → Nat
  | .openLevel _ => 1
  | .close => 2
  | .closeAll => 3

/-- A request becomes the overlay unit's write unit, and the dispatcher waits with the frame (R114). -/
def State.presentOverlay (s : State) (req : OverlayRequest) (sender : Nat) (seq : BitVec 16) : State :=
  ({ s with
      overlay := { s.overlay with request := some req }
      hand := .overlayUnit sender seq }).present .overlay

/-- A well-formed OVERLAY operation is judged (R114, R115, R117, R118). -/
def State.judgeOverlay (s : State) (op : OverlayOp) (sender : Nat) (seq : BitVec 16) : State :=
  let depth := s.overlay.levels.length
  match op with
  | .openLevel o =>
    if s.openTest o = .done then s.presentOverlay (.openLevel o sender) sender seq
    else s.overlayReply sender seq 1 depth (s.openTest o)
  | .close =>
    if depth = 0 then s.overlayReply sender seq 2 0 .stackEmpty
    else s.presentOverlay .close sender seq
  | .closeAll =>
    if depth = 0 then s.overlayReply sender seq 3 0 .done
    else s.presentOverlay .closeAll sender seq

/-- The overlay unit takes an OVERLAY frame: the payload check, then the operation (R114). -/
def State.takeOverlay (s : State) (f : RxFrame) : State :=
  match parseOverlay f.payload with
  | none => s.countUnusable
  | some op => s.judgeOverlay op f.sender f.seq

end Sys2Proof.Machine
end

