-- ==== Sys2Proof/Machine/Peers.lean ====
section
/-!
DEFINITION. Chapter 2: acceptance by sequence window, the silence and return events, ageing at a frame
start, and the dispatcher's first three steps.
-/
namespace Sys2Proof.Machine

/-! ## Acceptance (R22 to R27) -/

/-- The window of an entry marks sequence `high − i`. -/
def PeerEntry.marks (e : PeerEntry) (i : Nat) : Bool := e.window.getLsbD i

/-- What the peer table decides for a frame at step 2. -/
structure Verdict where
  entry : PeerEntry
  accepted : Bool
  restartRun : Bool
  resync : Bool
deriving DecidableEq, Repr

/-- The entry re-initialised at a sequence: high, a window that holds it alone, and the run (R23, R24). -/
def PeerEntry.restartAt (e : PeerEntry) (seq : BitVec 16) (run : Bool) : PeerEntry :=
  { e with high := seq, window := 1, run := run }

/-- The effects that every accepted frame shares (R27): silence age 0, LIVE, and an open run closed by a
frame without the restart flag. -/
def PeerEntry.onAccept (e : PeerEntry) (flag : Bool) : PeerEntry :=
  { e with silenceAge := 0, state := .live, run := e.run && flag }

/-- The decision for a frame of a LIVE entry that R24 does not take, by its forward distance (R25, R26). -/
def PeerEntry.judgeLive (e : PeerEntry) (seq : BitVec 16) (flag : Bool) : Verdict :=
  let d := (seq - e.high).toNat
  let back := (e.high - seq).toNat
  if d = 0 then { entry := e, accepted := false, restartRun := false, resync := false }
  else if d < 32768 then
    { entry := ({ e with high := seq, window := (e.window <<< d) ||| 1 }).onAccept flag
      accepted := true, restartRun := false, resync := false }
  else if back ≤ 31 then
    if e.marks back then { entry := e, accepted := false, restartRun := false, resync := false }
    else
      { entry := ({ e with window := e.window ||| (1 <<< back) }).onAccept flag
        accepted := true, restartRun := false, resync := false }
  else
    { entry := (e.restartAt seq e.run).onAccept flag, accepted := true, restartRun := false, resync := true }

/-- The peer table's decision for a frame of sequence `seq` with restart flag `flag` (R23 to R27). -/
def PeerEntry.judge (e : PeerEntry) (seq : BitVec 16) (flag : Bool) : Verdict :=
  if e.state ≠ .live then
    { entry := (e.restartAt seq flag).onAccept flag, accepted := true, restartRun := false, resync := false }
  else if flag = true ∧ e.run = false then
    { entry := (e.restartAt seq true).onAccept flag, accepted := true, restartRun := true, resync := false }
  else e.judgeLive seq flag

/-- The age for the arrival lane set to 0 (R22). -/
def PeerEntry.heardOn (e : PeerEntry) (lane : Lane) : PeerEntry :=
  match lane with
  | .a => { e with ageA := 0 }
  | .b => { e with ageB := 0 }

/-- The beacon fields after an accepted BEACON of 4 bytes (R31). -/
def PeerEntry.onBeacon (e : PeerEntry) (group : Nat) : PeerEntry :=
  { e with painter := true, beaconGroup := group, beaconAge := 0 }

/-! ## Liveness events (R32 to R34) -/

/-- The silence event of `p`, when one is outstanding: the field table's marks; then the paint unit and the overlay
unit take it in a free order (R33, R53, R121; log 11). -/
def State.deliverSilence (s : State) (p : Nat) : State :=
  let e := s.peer p
  if s.isRunning ∧ e.silenceDue = true then
    ((s.setPeer p { e with silenceDue := false }).mapSlots (Slot.onSilence p)).inEitherOrder State.paintTake
      State.orphanCheck
  else s

/-- The return event of `p` (R34, R53). -/
def State.deliverReturn (s : State) (p : Nat) : State :=
  (s.mapSlots (Slot.onReturn p)).paintTake

/-- The lapse signal of `p`, when one is outstanding: one election (R131). -/
def State.deliverLapse (s : State) (p : Nat) : State :=
  let e := s.peer p
  if s.isRunning ∧ e.lapseDue = true then (s.setPeer p { e with lapseDue := false }).elect else s

/-! ## The dispatcher's steps 1 to 3 (R20 to R31) -/

/-- Step 2 for a frame: lane age, decision, counters, return event, beacon fields and election; the
result says whether the frame was accepted (R22 to R27, R31, R34). A silence event of the sender that a frame
start raised before is taken first (R32). -/
def State.acceptFrame (s : State) (f : RxFrame) : State × Bool :=
  let p := f.sender
  let s0 := s.deliverSilence p
  let e := (s0.peer p).heardOn f.lane
  let v := e.judge f.seq f.restart
  if v.accepted then
    let s1 := ((s0.setPeer p v.entry).bumpIf v.restartRun 34).bumpIf v.resync 33
    let s2 := if e.isLive then s1 else s1.deliverReturn p
    let s3 :=
      if f.kind = kindBeacon ∧ f.payload.length = 4 then
        (s2.setPeer p (v.entry.onBeacon f.group)).elect
      else s2
    (s3, true)
  else ((s0.setPeer p e).bump 32 1, false)

/-- Steps 1 to 3 for the frame taken: station clash, acceptance, address filter; the result says whether
the frame reaches step 4 (R20, R21, R28). -/
def State.intake (s : State) (f : RxFrame) : State × Bool :=
  if f.sender = s.control.config.station then
    let s1 := s.bump 35 1
    ({ s1 with control := { s1.control with clash := true } }, false)
  else
    let r := s.acceptFrame f
    (r.1, r.2 && r.1.addressed f)

/-- The dispatcher, RUNNING and ready, takes the oldest frame of the queue if it is one for this row, and
hands a kept frame to its handler (R8, R20, R29). In any other state the event cannot occur (log 4). -/
def State.dispatch (s : State) (takes : RxFrame → Bool) (handler : RxFrame → State → State) : State :=
  if s.isRunning ∧ s.hand = .idle then
    match s.frameQueue with
    | [] => s
    | f :: rest =>
      if takes f then
        let r := ({ s with frameQueue := rest }).intake f
        if r.2 then handler f r.1 else r.1
      else s
  else s

/-! ## Ageing at a frame start (R22, R31, R32, R131) -/

/-- One entry at a frame start: lane ages, silence age, beacon age, and the events that the ageing
raises; `stale` is the stale time, `group` and `limit` the own group and the candidate limit. -/
def PeerEntry.age (stale group limit : Nat) (e : PeerEntry) : PeerEntry :=
  let silent := e.isLive && decide (e.silenceAge + 1 = stale)
  let beaconAge := min 65535 (e.beaconAge + 1)
  { e with
    ageA := min 255 (e.ageA + 1)
    ageB := min 255 (e.ageB + 1)
    silenceAge := if e.isLive then e.silenceAge + 1 else e.silenceAge
    state := if silent then .silent else e.state
    silenceDue := e.silenceDue || silent
    beaconAge := beaconAge
    lapseDue := e.lapseDue ||
      (e.painter && decide (e.beaconGroup = group) && decide (e.beaconAge ≠ beaconAge) &&
        decide (beaconAge = limit)) }

/-- The peer table ages every entry (R32). -/
def State.agePeers (s : State) : State :=
  let age := PeerEntry.age s.staleTime s.control.config.group s.candidateLimit
  { s with peers := storeMap PeerEntry.cold age s.peers }

end Sys2Proof.Machine
end

