-- ==== Sys2Proof/Machine/Reset.lean ====
section
/-!
DEFINITION. Chapter 10.1: what entering HELD, a cold reset, a warm reset and the entry to RUNNING do to
every block (R17 to R19, R54, R89, R104, R124 to R126, R142, R148, R152 to R154, R158).
-/
namespace Sys2Proof.Machine

/-- Every request that waits at the arbiter is withdrawn, a granted unit is left, and the frame in the
dispatcher's hand is dropped (R17, R89, R104, R124, R142, R152). -/
def State.withdraw (s : State) : State :=
  { s with
    overlay := { s.overlay with
      request := if s.port.holder = some .overlay then s.overlay.request else none }
    crawl := { s.crawl with request := s.crawl.request && decide (s.port.holder = some .crawl) }
    paint := if s.port.holder = some .paint then s.paint else none
    text := if s.port.holder = some .text then s.text else none
    hand := .idle }

/-- Both ports outside RUNNING (R1, R17, R152). -/
def State.stopPorts (s : State) : State := { s with portA := s.portA.stop, portB := s.portB.stop }

/-- RUNNING is entered: the ports open, the beacon countdown is set, the election runs, the crawl engine
presents a repaint, and the paint unit takes work (R1, R78, R126, R131, R142, R153, R154); the last two in a free order
(log 11). -/
def State.enterRunning (s : State) : State :=
  let s1 : State :=
    { s with
      control := { s.control with mode := .running, coldCause := none }
      portA := s.portA.start
      portB := s.portB.start
      group := { s.group with countdown := s.control.config.interval } }
  s1.elect.inEitherOrder State.needRepaint State.paintTake

/-- UNWINDING goes on: the unwinding is presented while levels are open and no overlay request is in hand;
RUNNING is entered when no granted unit is left and nothing is to be unwound (R124, R154). -/
def State.warmProgress (s : State) : State :=
  if s.overlay.request = none ∧ s.overlay.levels ≠ [] then
    ({ s with overlay := { s.overlay with request := some .unwinding } }).present .overlay
  else if s.port.holder = none then s.enterRunning
  else s

/-- The end of a write unit during a warm reset lets it go on (R154). -/
def State.afterUnit (s : State) : State :=
  if s.control.mode = .unwinding then s.warmProgress else s

/-- What a warm reset does at its start, before it goes on (R17, R19, R54, R89, R104, R124, R126, R142,
R148, R154, R158, R159). A crawl step that an earlier tick called for is taken first. A BEACON that was due and has
not been taken is not queued and uses no sequence number; the spec does not say whether it is queued first, and the
command BEACON_DUE may come before the reset (DESIGN CHOICE, log 9, safe). -/
def State.warmActions (s : State) (cause : Cause) (referenceRunning : Bool) : State :=
  let s1 := (s.takeTick.withdraw).fieldWarmReset
  { s1.stopPorts with
    frameQueue := []
    tx := { s1.tx with frames := [] }
    peers := []
    group := { s1.group with timing := .free, reference := 63, countdown := 0 }
    crawl := { s1.crawl with repeatMark := false }
    control := { s1.control with
      mode := .unwinding
      cause := cause
      clash := false
      clock := if referenceRunning then .reference else s1.control.clock } }

/-- A warm reset begins (R154). -/
def State.warmReset (s : State) (cause : Cause) (referenceRunning : Bool) : State :=
  (s.warmActions cause referenceRunning).warmProgress

/-- The values that a cold reset sets "from the start of HELD" (R18, R19, R111, R126, R142, R148, R153). Of the
configuration R153 gives the state DEFAULT and the own station none; every other field stays as the earlier configuration
has it until the image is validated (DESIGN CHOICE, log 20, unsafe). -/
def State.coldStart (s : State) : State :=
  let s1 := s.withdraw
  { s1.stopPorts with
    frameQueue := []
    tx := { frames := [], seq := 0, queued := 0 }
    peers := []
    group := { phase := 0, timing := .free, reference := 63, corrections := 0, countdown := 0 }
    crawl := { s1.crawl with repeatMark := false, tickDue := false }
    scan := { s1.scan with blank := true, frameBlank := true }
    control := { s1.control with
      config := { s1.control.config with station := 63 }
      valid := false
      clamped := 0
      running := []
      snapshot := [] } }

/-- HELD is entered (R152). -/
def State.enterHeld (s : State) (byPower : Bool) : State :=
  let s1 := s.withdraw.stopPorts
  { s1 with control := { s1.control with mode := .held, heldByPower := byPower } }

/-- LOADING begins, with the cause of the cold reset (R152, R153, R158, R159). -/
def State.beginLoading (s : State) (cause : Cause) (referenceRunning : Bool) : State :=
  { s with control := { s.control with
      mode := .loading
      coldCause := some cause
      cause := cause
      clash := false
      clock := if referenceRunning then .reference else s.control.clock } }

end Sys2Proof.Machine
end

