-- ==== Sys2Proof/Machine/Units.lean ====
section
/-!
DEFINITION. The commands that end the granted write units of the cell store (chapters 3, 5, 6, 7, 8). Each
writes the cells that its grant decided, whole, and ends, in one step (R101, R102; DEDUCED, log 7). In any state
in which the unit does not hold the port the event cannot occur, and nothing changes (log 4).
-/
namespace Sys2Proof.Machine

/-! ## Paint unit -/

/-- The paint unit's write unit on `slot` has ended: IDLE, the port freed, and in UNWINDING R54's changes
made to the slot (R81, R86, R89, R101). -/
def State.paintEnded (s : State) (slot : Nat) : State :=
  let s1 := ({ s with paint := none }).release
  let s2 := if s1.control.mode = .unwinding then s1.setSlot slot (s1.slot slot).onWarmReset else s1
  s2.paintTake.afterUnit

/-- The end of a granted paint (R81 to R84). -/
def State.endPaint (s : State) : State :=
  match s.paint with
  | some (.paint n _ value _ _) => ((s.applyPaint value).scanned s).paintEnded n
  | _ => s

/-- The end of a granted restyle (R86). -/
def State.endRestyle (s : State) : State :=
  match s.paint with
  | some (.restyle n _) => (s.applyRestyle.scanned s).paintEnded n
  | _ => s

/-- PAINT_COMPLETION (R81). -/
def execPaintCompletion (s : State) : Host.Outcome State Fault Refusal :=
  if s.port.holder = some .paint then goOn s.endPaint else goOn s

/-- RESTYLE_COMPLETION (R86). -/
def execRestyleCompletion (s : State) : Host.Outcome State Fault Refusal :=
  if s.port.holder = some .paint then goOn s.endRestyle else goOn s

/-! ## Text writer -/

/-- What a granted BIND fill does: spaces in base colours (R44). -/
def State.applyFill (s : State) (place : Placement) (base : Base) : State :=
  s.writeBaseAll (place.cells.map (fun i =>
    (i, { glyph := 32, fg := base.fg, bg := base.bg, attrs := { base.attrs with inverse := false } })))

/-- The glyphs of a run with the columns they are for, those beyond the last column discarded (R106,
R107). -/
def Run.columns (r : Run) (limit : Nat) : List (Nat × Byte) :=
  (((List.range r.glyphs.length).map (fun j => r.col + j)).zip r.glyphs).filter
    (fun e => decide (e.1 < limit))

/-- The cell that a run writes for a glyph. -/
def Run.cell (r : Run) (g : Byte) : Cell := { glyph := frameGlyph g, fg := r.fg, bg := r.bg, attrs := r.attrs }

/-- One cell of a BASE run: written where no one owns it, else skipped and counted (R106). -/
def State.baseCellRun (r : Run) (s : State) (e : Nat × Byte) : State :=
  let i := cellKey r.row e.1
  if s.ownerOf i = .none then s.writeBase i (r.cell e.2) else s.bump 46 1

/-- What a granted BASE run does (R106). -/
def State.applyBaseRun (s : State) (r : Run) : State := (r.columns 128).foldl (State.baseCellRun r) s

/-- The interior of a level: top row, left column, height, width (R107). -/
def Level.interior (lv : Level) : Nat × Nat × Nat × Nat :=
  if lv.border then (lv.top + 1, lv.left + 1, lv.height - 2, lv.width - 2)
  else (lv.top, lv.left, lv.height, lv.width)

/-- What a granted TOP run does, against the overlay stack as it stands (R107). -/
def State.applyTopRun (s : State) (r : Run) : State :=
  match s.overlay.levels.getLast? with
  | none => s.countUnusable
  | some lv =>
    let box := lv.interior
    if r.row < box.2.2.1 ∧ r.col < box.2.2.2 then
      s.setCells ((r.columns box.2.2.2).map
        (fun e => (cellKey (box.1 + r.row) (box.2.1 + e.1), r.cell e.2)))
    else s.countUnusable

/-- The text writer's write unit has ended: the port freed; a PAINT frame is finished, and a LAYOUT
frame's next operation is taken (R20, R44, R101). -/
def State.textEnded (s : State) : State :=
  let s1 := ({ s with text := none }).release
  let s2 := match s1.hand with
    | .paint _ => { s1 with hand := .idle }
    | .layoutFill job => s1.layoutTake job
    | _ => s1
  s2.afterUnit

/-- The end of a granted BIND fill (R44). -/
def State.endFill (s : State) : State :=
  match s.text with
  | some (.fill place base) => ((s.applyFill place base).scanned s).textEnded
  | _ => s

/-- The end of a granted BASE run (R106). -/
def State.endBaseRun (s : State) : State :=
  match s.text with
  | some (.base r) => ((s.applyBaseRun r).scanned s).textEnded
  | _ => s

/-- The end of a granted TOP run (R107). -/
def State.endTopRun (s : State) : State :=
  match s.text with
  | some (.top r) => ((s.applyTopRun r).scanned s).textEnded
  | _ => s

/-- BIND_FILL (R44). -/
def execBindFill (s : State) : Host.Outcome State Fault Refusal :=
  if s.port.holder = some .text then goOn s.endFill else goOn s

/-- BASE_RUN (R106). -/
def execBaseRun (s : State) : Host.Outcome State Fault Refusal :=
  if s.port.holder = some .text then goOn s.endBaseRun else goOn s

/-- TOP_RUN (R107). -/
def execTopRun (s : State) : Host.Outcome State Fault Refusal :=
  if s.port.holder = some .text then goOn s.endTopRun else goOn s

/-! ## Overlay unit -/

/-- The overlay unit's write unit has ended and its request is gone (R101). -/
def State.overlayFreed (s : State) : State :=
  ({ s with overlay := { s.overlay with request := none } }).release

/-- The answer to the OVERLAY frame that the dispatcher still holds, which is then finished; none after a
reset has dropped it (R119, R124). -/
def State.answerOverlay (s : State) (op level : Nat) : State :=
  match s.hand with
  | .overlayUnit sender seq => ({ s with hand := .idle }).overlayReply sender seq op level .done
  | _ => s

/-- The end of an OPEN, CLOSE or CLOSE_ALL unit: freed, answered, orphan check (R119, R121). -/
def State.overlayEnded (s : State) (op level : Nat) : State :=
  ((s.overlayFreed.answerOverlay op level).orphanCheck).afterUnit

/-- The end of a granted OPEN (R116). -/
def State.endOpen (s : State) : State :=
  match s.overlay.request with
  | some (.openLevel op requester) =>
    ((s.applyOpen op requester).scanned s).overlayEnded 1 (s.overlay.levels.length + 1)
  | _ => s

/-- The end of a granted CLOSE (R117). -/
def State.endClose (s : State) : State :=
  match s.overlay.request with
  | some .close => (s.closeTop.scanned s).overlayEnded 2 s.overlay.levels.length
  | _ => s

/-- The end of a granted CLOSE_ALL (R118). -/
def State.endCloseAll (s : State) : State :=
  match s.overlay.request with
  | some .closeAll => (s.closeAll.scanned s).overlayEnded 3 s.overlay.levels.length
  | _ => s

/-- What the write unit of a granted orphan close does: closes the levels that its grant decided (R122). -/
def State.applyOrphan (s : State) : State :=
  match s.port.decided with
  | .closes k => State.closeTops k s
  | _ => s

/-- The end of a granted orphan close (R122): not answered, then the orphan check (R121). -/
def State.endOrphan (s : State) : State :=
  match s.overlay.request with
  | some .orphan => (((s.applyOrphan.scanned s).overlayFreed).orphanCheck).afterUnit
  | _ => s

/-- The end of the granted unwinding (R124). -/
def State.endUnwinding (s : State) : State :=
  match s.overlay.request with
  | some .unwinding => ((s.closeAll.scanned s).overlayFreed).afterUnit
  | _ => s

/-- OPEN_UNIT (R116). -/
def execOpenUnit (s : State) : Host.Outcome State Fault Refusal :=
  if s.port.holder = some .overlay then goOn s.endOpen else goOn s

/-- CLOSE_UNIT (R117). -/
def execCloseUnit (s : State) : Host.Outcome State Fault Refusal :=
  if s.port.holder = some .overlay then goOn s.endClose else goOn s

/-- CLOSE_ALL_UNIT (R118). -/
def execCloseAllUnit (s : State) : Host.Outcome State Fault Refusal :=
  if s.port.holder = some .overlay then goOn s.endCloseAll else goOn s

/-- ORPHAN_CLOSE (R122). -/
def execOrphanClose (s : State) : Host.Outcome State Fault Refusal :=
  if s.port.holder = some .overlay then goOn s.endOrphan else goOn s

/-- UNWINDING (R124). -/
def execUnwinding (s : State) : Host.Outcome State Fault Refusal :=
  if s.port.holder = some .overlay then goOn s.endUnwinding else goOn s

/-! ## Crawl engine -/

/-- The end of a granted repaint; a further repaint is presented when the repeat mark is set (R141). -/
def State.endRepaint (s : State) : State :=
  let s1 := s.applyRepaint.scanned s
  let again := s1.crawl.repeatMark
  let s2 := ({ s1 with crawl := { s1.crawl with request := false, repeatMark := false } }).release
  (if again then s2.needRepaint else s2).afterUnit

/-- CRAWL_REPAINT (R141). -/
def execCrawlRepaint (s : State) : Host.Outcome State Fault Refusal :=
  if s.port.holder = some .crawl then goOn s.endRepaint else goOn s

/-- The painter with the cells written of the unit that holds the port, whichever it is. -/
def State.unitApplied (s : State) : State :=
  match s.port.holder with
  | none => s
  | some .paint => match s.paint with
    | some (.paint _ _ value _ _) => s.applyPaint value
    | some (.restyle _ _) => s.applyRestyle
    | none => s
  | some .text => match s.text with
    | some (.fill place base) => s.applyFill place base
    | some (.base r) => s.applyBaseRun r
    | some (.top r) => s.applyTopRun r
    | none => s
  | some .crawl => s.applyRepaint
  | some .overlay => match s.overlay.request with
    | some (.openLevel op requester) => s.applyOpen op requester
    | some .close => s.closeTop
    | some .closeAll | some .unwinding => s.closeAll
    | some .orphan => s.applyOrphan
    | none => s

/-- The unit that holds the port ends, whichever it is. -/
def State.endHeldUnit (s : State) : State :=
  match s.port.holder with
  | none => s
  | some .paint => match s.paint with
    | some (.restyle _ _) => s.endRestyle
    | _ => s.endPaint
  | some .text => match s.text with
    | some (.base _) => s.endBaseRun
    | some (.top _) => s.endTopRun
    | _ => s.endFill
  | some .crawl => s.endRepaint
  | some .overlay => match s.overlay.request with
    | some (.openLevel _ _) => s.endOpen
    | some .close => s.endClose
    | some .closeAll => s.endCloseAll
    | some .orphan => s.endOrphan
    | _ => s.endUnwinding

end Sys2Proof.Machine
end

