-- ==== Sys2Proof/Machine/Dispatcher.lean ====
section
/-!
DEFINITION. The commands by which the dispatcher takes a frame (R20, R29, R30), but for the queries: the
handlers of QUOTE, PRESENCE, PAINT, LAYOUT, OVERLAY, CRAWL and BEACON frames.
-/
namespace Sys2Proof.Machine

/-! ## QUOTE, PRESENCE, unusable kinds -/

/-- The field table takes a QUOTE frame; the paint unit takes work that it offers after its last item (R47, R48,
R78; DEDUCED, log 16). -/
def State.takeQuote (f : RxFrame) (s : State) : State :=
  match parseQuote f.payload with
  | none => s.countUnusable
  | some (instrument, items) => (s.applyItems f.sender instrument items).paintTake

/-- A PRESENCE frame at step 4 (R29, R30). -/
def takePresence (f : RxFrame) (s : State) : State :=
  if f.payload = [] then s else s.countUnusable

/-- QUOTE (R47). -/
def execQuote (s : State) : Host.Outcome State Fault Refusal :=
  goOn (s.dispatch (fun f => decide (f.kind = kindQuote)) State.takeQuote)

/-- PRESENCE (R29). -/
def execPresence (s : State) : Host.Outcome State Fault Refusal :=
  goOn (s.dispatch (fun f => decide (f.kind = kindPresence)) takePresence)

/-- UNUSABLE_FRAME (R30). -/
def execUnusableFrame (s : State) : Host.Outcome State Fault Refusal :=
  goOn (s.dispatch takesUnusable (fun _ s1 => s1.countUnusable))

/-! ## LAYOUT -/

/-- The field table takes a LAYOUT frame: the structure check, then its first operation (R40, R41). -/
def takeLayout (f : RxFrame) (s : State) : State :=
  match parseLayout f.payload with
  | none => s.countUnusable
  | some ops => s.layoutTake { sender := f.sender, seq := f.seq, remaining := ops, results := [] }

/-- A LAYOUT row: the next operation of the frame in hand when it is of this row, or a LAYOUT frame taken
from the queue (R41). -/
def State.layoutRow (s : State) (code : Nat) : State :=
  match s.hand with
  | .layout job =>
    match job.remaining with
    | op :: _ => if s.isRunning ∧ op.code = code then s.layoutTake job else s
    | [] => s
  | _ => s.dispatch (takesLayout code) takeLayout

/-- BIND (R43). -/
def execBind (s : State) : Host.Outcome State Fault Refusal := goOn (s.layoutRow 1)

/-- UNBIND (R45). -/
def execUnbind (s : State) : Host.Outcome State Fault Refusal := goOn (s.layoutRow 2)

/-- LEVEL (R46). -/
def execLevel (s : State) : Host.Outcome State Fault Refusal := goOn (s.layoutRow 3)

/-! ## PAINT -/

/-- The text writer takes a PAINT frame: the check, then its write unit; the dispatcher waits (R105). -/
def takePaintFrame (f : RxFrame) (s : State) : State :=
  match parsePaint f.payload with
  | none => s.countUnusable
  | some (top, run) =>
    ({ s with text := some (if top then .top run else .base run), hand := .paint f }).present .text

/-- PAINT_BASE (R105). -/
def execPaintBase (s : State) : Host.Outcome State Fault Refusal :=
  goOn (s.dispatch (takesPaint 0) takePaintFrame)

/-- PAINT_TOP (R105). -/
def execPaintTop (s : State) : Host.Outcome State Fault Refusal :=
  goOn (s.dispatch (takesPaint 1) takePaintFrame)

/-! ## OVERLAY -/

/-- The dispatcher hands on an OVERLAY frame: it waits while another request is in hand (R114). -/
def handOverlay (f : RxFrame) (s : State) : State :=
  if s.overlay.request.isSome then { s with hand := .overlayWait f } else s.takeOverlay f

/-- An OVERLAY row: the frame that waits in the dispatcher's hand once the overlay unit has no request,
or an OVERLAY frame taken from the queue (R114). -/
def State.overlayRow (s : State) (code : Nat) : State :=
  match s.hand with
  | .overlayWait f =>
    if s.isRunning = true ∧ s.overlay.request = none ∧ takesOverlay code f = true then
      ({ s with hand := .idle }).takeOverlay f
    else s
  | _ => s.dispatch (takesOverlay code) handOverlay

/-- OPEN (R115). -/
def execOpen (s : State) : Host.Outcome State Fault Refusal := goOn (s.overlayRow 1)

/-- CLOSE (R117). -/
def execClose (s : State) : Host.Outcome State Fault Refusal := goOn (s.overlayRow 2)

/-- CLOSE_ALL (R118). -/
def execCloseAll (s : State) : Host.Outcome State Fault Refusal := goOn (s.overlayRow 3)

/-! ## CRAWL and BEACON -/

/-- CRAWL (R136). The step that an earlier tick called for is taken first (R137, log 9). -/
def execCrawl (s : State) : Host.Outcome State Fault Refusal :=
  goOn (s.dispatch (fun f => decide (f.kind = kindCrawl)) (fun f s1 => s1.takeTick.takeCrawl f))

/-- BEACON (R132). -/
def execBeacon (s : State) : Host.Outcome State Fault Refusal :=
  goOn (s.dispatch (fun f => decide (f.kind = kindBeacon)) (fun f s1 => s1.takeBeacon f))

end Sys2Proof.Machine
end

