-- ==== Sys2Proof/Machine/Queries.lean ====
section
/-!
DEFINITION. Chapter 9: the commands by which the control unit takes a QUERY.
-/
namespace Sys2Proof.Machine

/-- Queue the answer to a query (R144). -/
def State.answerQuery (s : State) (f : RxFrame) (code : ResultCode) (data : List Byte) : State :=
  s.queueReply f.sender kindQuery f.seq code data

/-- STATUS (R143, R146). -/
def takeStatus (f : RxFrame) (s : State) : State :=
  if f.payload.length = 1 then s.answerQuery f .done s.statusRecord else s.countUnusable

/-- The running bank copied to the snapshot bank, and zeroed (R149). -/
def State.captureBanks (s : State) : State :=
  { s with control := { s.control with snapshot := s.control.running, running := [] } }

/-- CAPTURE (R143, R149). -/
def takeCapture (f : RxFrame) (s : State) : State :=
  if f.payload.length = 1 then s.captureBanks.answerQuery f .done [] else s.countUnusable

/-- A page of twelve snapshot counters, high byte first (R150). -/
def State.counterPage (s : State) (page : Nat) : List Byte :=
  byteOf page ::
    (List.range 12).flatMap (fun j => bytes32 (BitVec.ofNat 32 (s.snapCounter (12 * page + j))))

/-- COUNTERS (R143, R150). -/
def takeCounters (f : RxFrame) (s : State) : State :=
  match f.payload with
  | [_, page] =>
    if 3 < page.toNat then s.answerQuery f .range []
    else s.answerQuery f .done (s.counterPage page.toNat)
  | _ => s.countUnusable

/-- SLOT (R143, R147). A report of a slot without a shown value draws one free value (log 5). -/
def takeSlot (f : RxFrame) (s : State) : State :=
  match f.payload with
  | [_, n] =>
    let s1 := if (s.slot n.toNat).shown = none then { s with freeCount := s.freeCount + 1 } else s
    s1.answerQuery f .done (s.slotReport n.toNat (Config.freeLastSource s.freeCount))
  | _ => s.countUnusable

/-- RESTART (R143, R151): a warm reset with cause REMOTE, not answered. -/
def takeRestart (referenceRunning : Bool) (f : RxFrame) (s : State) : State :=
  if f.payload.length = 1 then s.warmReset .remote referenceRunning else s.countUnusable

/-- A query of an unknown code (R143). -/
def takeBadRequest (f : RxFrame) (s : State) : State :=
  if f.payload = [] then s.countUnusable else s.answerQuery f .badRequest []

/-- STATUS (R146). -/
def execStatus (s : State) : Host.Outcome State Fault Refusal :=
  goOn (s.dispatch (takesQuery 1) takeStatus)

/-- CAPTURE (R149). -/
def execCapture (s : State) : Host.Outcome State Fault Refusal :=
  goOn (s.dispatch (takesQuery 2) takeCapture)

/-- COUNTERS (R150). -/
def execCounters (s : State) : Host.Outcome State Fault Refusal :=
  goOn (s.dispatch (takesQuery 3) takeCounters)

/-- SLOT (R147). -/
def execSlotQuery (s : State) : Host.Outcome State Fault Refusal :=
  goOn (s.dispatch (takesQuery 4) takeSlot)

/-- RESTART (R151). -/
def execRestart (referenceRunning : Bool) (s : State) : Host.Outcome State Fault Refusal :=
  goOn (s.dispatch (takesQuery 5) (takeRestart referenceRunning))

/-- BAD_REQUEST (R143). -/
def execBadRequest (s : State) : Host.Outcome State Fault Refusal :=
  goOn (s.dispatch takesBadRequest takeBadRequest)

end Sys2Proof.Machine
end

