-- ==== Sys2Proof/Machine/Scan.lean ====
section
/-!
DEFINITION. Chapter 6.5 and the events of a display frame: frame start, active start, what a frame start
raises, and what the screen shows.
-/
namespace Sys2Proof.Machine

/-- Every event that the last frame start raised and that has not been taken yet: silence events, lapse
signals, highlight moves, the crawl step, the beacon (R109: all are taken before the active start; log 9). Outside
RUNNING there are none but the moves, and in HELD no block takes them (R92, R152). -/
def State.takeRaised (s : State) : State :=
  let moves (s : State) : State := (List.range 256).foldl State.moveHighlight s
  if s.isRunning then
    let s1 := (List.range 63).foldl State.deliverSilence s
    let s2 := (List.range 63).foldl State.deliverLapse s1
    ((moves s2).takeTick).sendBeacon
  else if s.control.mode = .held then s
  else moves s

/-- Every highlight ages (R92). -/
def Slot.ageHighlight (r : Slot) : Slot := { r with highlight := r.highlight.age }

/-- The group timer at a frame start: the phase tick and the beacon countdown (R127, R139). -/
def State.tickPhase (s : State) : State :=
  let phase := s.group.phase + 1
  { s with
    group := { s.group with phase := phase, countdown := s.group.countdown - 1 }
    crawl := { s.crawl with
      tickDue := s.crawlEnabled && decide (phase.toNat % s.control.config.crawlStep = 0) } }

/-- The scan engine at a frame start: the rest of the display frame before it has been read, each cell as it stands or
in any stage that the unit in progress takes it through, a free value (R102, R109; DESIGN CHOICE, log 15), and blanking
ends when RUNNING has been entered since the cold reset began (R111). -/
def State.scanFrameStart (s : State) : State :=
  { s with
    scan := { s.scan with
      frame := s.readOn (State.closeStages s.closing.length s ++ [s.unitApplied.store.cells]) Config.cellCount
      read := Config.cellCount
      blank := s.scan.blank && s.control.coldCause.isSome }
    freeCount := s.freeCount + 1 }

/-- FRAME_START (R108). In HELD the scan engine alone takes it (R152). In LOADING, CLEARING and UNWINDING the paint
unit ages its highlights (R92), and the peer table, the group timer and the crawl engine change nothing (R19, R126,
R142; DEDUCED, log 17). While RUNNING every block takes it. -/
def execFrameStart (s : State) : Host.Outcome State Fault Refusal :=
  let s1 := s.takeRaised.scanFrameStart
  goOn
    (if s.isRunning then ((s1.agePeers).mapSlots Slot.ageHighlight).tickPhase
     else if s.control.mode = .held then s1
     else s1.mapSlots Slot.ageHighlight)

/-- ACTIVE_START (R109): the phase count is sampled for the whole display frame, and the reading of its cells
begins (log 15). -/
def execActiveStart (s : State) : Host.Outcome State Fault Refusal :=
  let s1 := s.takeRaised
  goOn { s1 with scan :=
    { s1.scan with
      sampled := s1.group.phase, frame := [], frameBlank := s1.scan.blank, read := 0 } }

/-- SILENCE_EVENT (R32, R33, R121). -/
def execSilenceEvent (station : Nat) (s : State) : Host.Outcome State Fault Refusal :=
  if 63 ≤ station then .refused (.illFormed "SILENCE_EVENT") else goOn (s.deliverSilence station)

/-- BEACON_LAPSE (R131). -/
def execBeaconLapse (station : Nat) (s : State) : Host.Outcome State Fault Refusal :=
  if 63 ≤ station then .refused (.illFormed "BEACON_LAPSE") else goOn (s.deliverLapse station)

/-- HIGHLIGHT_MOVE (R93). In HELD no block takes what a frame start raised (R152). -/
def execHighlightMove (slot : Nat) (s : State) : Host.Outcome State Fault Refusal :=
  if 256 ≤ slot then .refused (.illFormed "HIGHLIGHT_MOVE")
  else if s.control.mode = .held then goOn s else goOn (s.moveHighlight slot)

/-- CRAWL_STEP (R138). -/
def execCrawlStep (s : State) : Host.Outcome State Fault Refusal :=
  if s.isRunning then goOn s.takeTick else goOn s

/-- BEACON_DUE (R128). -/
def execBeaconDue (s : State) : Host.Outcome State Fault Refusal := goOn s.sendBeacon

/-! ## What the screen shows (R110, R111) -/

/-- One drawn cell: the glyph shape, its two colours, and whether the bottom line is drawn in the
foreground colour. -/
structure Drawn where
  shape : BitVec 9
  fg : BitVec 12
  bg : BitVec 12
  underline : Bool
deriving DecidableEq, Repr

/-- Each component halved, the remainder discarded (R110 step 3). -/
def dimmed (c : BitVec 12) : BitVec 12 :=
  (c.extractLsb' 8 4 >>> 1) ++ (c.extractLsb' 4 4 >>> 1) ++ (c.extractLsb' 0 4 >>> 1)

/-- The drawing of one cell (R110). -/
def drawCell (cfg : Configuration) (phase : BitVec 16) (c : Cell) : Drawn :=
  let ink := cfg.palette.getD c.fg.toNat 0
  let paper := cfg.palette.getD c.bg.toNat 0
  let fg := if c.attrs.inverse then paper else ink
  let bg := if c.attrs.inverse then ink else paper
  { shape := if c.attrs.blink = true ∧ cfg.blink / 2 ≤ phase.toNat % cfg.blink then 32 else c.glyph
    fg := if c.attrs.dim then dimmed fg else fg
    bg := bg
    underline := c.attrs.underline }

/-- The record from which the display frame draws a cell: as it was read, or, for a cell not read yet, as it
stands (R109). -/
def State.shownCell (s : State) (i : Nat) : Cell :=
  if i < s.scan.read then storeGet cellBlank s.scan.frame i else s.cell i

/-- What the display frame shows at a row and column: none (black, the display enable held off) while
blanked (R111). -/
def State.pixel (s : State) (row col : Nat) : Option Drawn :=
  if s.scan.frameBlank then none
  else some (drawCell s.control.config s.scan.sampled (s.shownCell (cellKey row col)))

end Sys2Proof.Machine
end

