-- ==== Sys2Proof/Machine/StartUp.lean ====
section
/-!
DEFINITION. Chapter 10: the commands of the reset pins, the configuration load and the clock monitor.
-/
namespace Sys2Proof.Machine

/-- The cold values that are set when HELD is entered: those of a cold reset of cause POWER (R152). -/
def State.heldValues (s : State) : State := if s.control.coldCause = some .power then s.coldStart else s

/-- POWER_ON (R152, R158): HELD by the power-on detector. The cause is POWER, or that of the earlier cold reset that
has not reached RUNNING. -/
def execPowerOn (s : State) : Host.Outcome State Fault Refusal :=
  let s1 := s.enterHeld true
  goOn ({ s1 with control := { s1.control with
    clock := .backup
    coldCause := some (s1.control.coldCause.getD .power) } }).heldValues

/-- RESET_ASSERT (R152): nRST is taken low. While HELD already, nothing more is entered. -/
def execResetAssert (s : State) : Host.Outcome State Fault Refusal :=
  if s.control.mode = .held then goOn s else goOn (s.enterHeld false).heldValues

/-- HELD_END (R152): the kind of reset and its cause are decided, and the clock state (R158). A cold reset of another
cause than POWER sets its cold values now. -/
def execHeldEnd (coldLow referenceRunning : Bool) (s : State) : Host.Outcome State Fault Refusal :=
  if s.control.mode = .held then
    match s.control.coldCause with
    | some .power => goOn (s.beginLoading .power referenceRunning)
    | some cause => goOn (s.coldStart.beginLoading cause referenceRunning)
    | none =>
      if coldLow then goOn (s.coldStart.beginLoading .coldPin referenceRunning)
      else goOn (s.warmReset .warmPin referenceRunning)
  else goOn s

/-- The image read is put in force: validated and clamped, or DEFAULT (R155, R156). -/
def State.validate (s : State) (image : List Byte) : State :=
  let fields := imageFields image
  { s with control :=
      if imageAccepted image then
        { s.control with config := fields.1, valid := true, clamped := fields.2 }
      else { s.control with config := Configuration.default, valid := false, clamped := 0 } }

/-- The owner map of CLEARING: NONE, but the crawl row when the configuration names one (R99, R134). -/
def clearedOwners : Option Nat → Store Owner
  | none => []
  | some row =>
    storeSetAll Owner.none [] ((List.range 128).map (fun x => (cellKey row x, Owner.crawl)))

/-- What CLEARING sets, at its start (R55, R98 to R100, R125, R142, R153; DEDUCED, log 18). -/
def State.clearAll (s : State) : State :=
  { s with
    fields := { slots := [], stamp := 0 }
    store := { cells := [], owner := clearedOwners s.control.config.crawlRow, cover := [] }
    overlay := { s.overlay with levels := [], used := 0, request := none }
    crawl := { p := 0, tape := [], request := false, repeatMark := false, tickDue := false }
    paint := none
    text := none
    port := { holder := none, decided := .standing } }

/-- LOADING_COMPLETE (R153, R155, R156): the image is validated or DEFAULT is put in force, and CLEARING
begins. A unit granted before HELD that still holds the port ends first (log 13). -/
def execLoadingComplete (image : List Byte) (s : State) : Host.Outcome State Fault Refusal :=
  if image.length ≠ 64 then .refused (.illFormed "LOADING_COMPLETE")
  else if s.control.mode = .loading then
    let s1 := ((s.endHeldUnit).validate image).clearAll
    goOn { s1 with control := { s1.control with mode := .clearing } }
  else goOn s

/-- CLEARING_COMPLETE (R153): RUNNING is entered. -/
def execClearingComplete (s : State) : Host.Outcome State Fault Refusal :=
  if s.control.mode = .clearing then goOn s.enterRunning else goOn s

/-- REFERENCE_STOP (R158): in REFERENCE, the clock state becomes BACKUP, the inhibit begins (R12), and when
RUNNING the election is run (R131). In BACKUP a further stop has no effect. -/
def execReferenceStop (s : State) : Host.Outcome State Fault Refusal :=
  if s.control.clock = .reference then
    let s1 := ({ s with control := { s.control with clock := .backup } }).beginInhibit
    goOn (if s1.isRunning then s1.elect else s1)
  else goOn s

end Sys2Proof.Machine
end

