-- ==== Sys2Proof/Machine/Dispatch.lean ====
section
/-!
DEFINITION. One arm for each row of spec/opcode_table.json, in the table's order.
-/
namespace Sys2Proof.Machine

/-- What a command does to everything but the queue of waiting commands. -/
def exec (i : Instr) (s : State) : Host.Outcome State Fault Refusal :=
  match i with
  | .carrierArrival lane => Sys2Proof.Machine.execCarrierArrival lane s
  | .frameEnd lane times rest => Sys2Proof.Machine.execFrameEnd lane times rest s
  | .jabberCutoff lane => Sys2Proof.Machine.execJabberCutoff lane s
  | .gapExpiry lane => Sys2Proof.Machine.execGapExpiry lane s
  | .transmitComplete lane => Sys2Proof.Machine.execTransmitComplete lane s
  | .holdGapExpiry lane => Sys2Proof.Machine.execHoldGapExpiry lane s
  | .collision lane => Sys2Proof.Machine.execCollision lane s
  | .jamEnd lane => Sys2Proof.Machine.execJamEnd lane s
  | .backoffExpiry lane => Sys2Proof.Machine.execBackoffExpiry lane s
  | .quote => Sys2Proof.Machine.execQuote s
  | .presence => Sys2Proof.Machine.execPresence s
  | .unusableFrame => Sys2Proof.Machine.execUnusableFrame s
  | .bind => Sys2Proof.Machine.execBind s
  | .unbind => Sys2Proof.Machine.execUnbind s
  | .level => Sys2Proof.Machine.execLevel s
  | .bindFill => Sys2Proof.Machine.execBindFill s
  | .paintBase => Sys2Proof.Machine.execPaintBase s
  | .paintTop => Sys2Proof.Machine.execPaintTop s
  | .baseRun => Sys2Proof.Machine.execBaseRun s
  | .topRun => Sys2Proof.Machine.execTopRun s
  | .overlayOpen => Sys2Proof.Machine.execOpen s
  | .overlayClose => Sys2Proof.Machine.execClose s
  | .overlayCloseAll => Sys2Proof.Machine.execCloseAll s
  | .openUnit => Sys2Proof.Machine.execOpenUnit s
  | .closeUnit => Sys2Proof.Machine.execCloseUnit s
  | .closeAllUnit => Sys2Proof.Machine.execCloseAllUnit s
  | .orphanClose => Sys2Proof.Machine.execOrphanClose s
  | .crawl => Sys2Proof.Machine.execCrawl s
  | .beacon => Sys2Proof.Machine.execBeacon s
  | .status => Sys2Proof.Machine.execStatus s
  | .capture => Sys2Proof.Machine.execCapture s
  | .counters => Sys2Proof.Machine.execCounters s
  | .slotQuery => Sys2Proof.Machine.execSlotQuery s
  | .restart referenceRunning => Sys2Proof.Machine.execRestart referenceRunning s
  | .badRequest => Sys2Proof.Machine.execBadRequest s
  | .frameStart => Sys2Proof.Machine.execFrameStart s
  | .silenceEvent station => Sys2Proof.Machine.execSilenceEvent station s
  | .beaconLapse station => Sys2Proof.Machine.execBeaconLapse station s
  | .highlightMove slot => Sys2Proof.Machine.execHighlightMove slot s
  | .crawlStep => Sys2Proof.Machine.execCrawlStep s
  | .beaconDue => Sys2Proof.Machine.execBeaconDue s
  | .activeStart => Sys2Proof.Machine.execActiveStart s
  | .paintCompletion => Sys2Proof.Machine.execPaintCompletion s
  | .restyleCompletion => Sys2Proof.Machine.execRestyleCompletion s
  | .crawlRepaint => Sys2Proof.Machine.execCrawlRepaint s
  | .powerOn => Sys2Proof.Machine.execPowerOn s
  | .resetAssert => Sys2Proof.Machine.execResetAssert s
  | .heldEnd coldLow referenceRunning => Sys2Proof.Machine.execHeldEnd coldLow referenceRunning s
  | .loadingComplete image => Sys2Proof.Machine.execLoadingComplete image s
  | .clearingComplete => Sys2Proof.Machine.execClearingComplete s
  | .unwinding => Sys2Proof.Machine.execUnwinding s
  | .referenceStop => Sys2Proof.Machine.execReferenceStop s
  | .carrierDrop lane => Sys2Proof.Machine.execCarrierDrop lane s

end Sys2Proof.Machine
end

