-- ==== Sys2Proof/Safety.lean ====
section
/-!
DEFINITION. What the claims are stated in: the laws that the blocks keep, the frames of the commands, and how a
frame reaches its handler.
-/
namespace Sys2Proof.Machine

/-! ## Counters (R6, R148) -/

/-- The amount that a list of (counter number, amount) increases adds to counter `n`. -/
def amountFor (rises : List (Nat × Nat)) (n : Nat) : Nat :=
  ((rises.filter (fun e => decide (e.1 = n))).map Prod.snd).sum

/-- Every running counter of `t` is that of `s` with these increases added, held at the top (R148). -/
def State.risesTo (s t : State) (rises : List (Nat × Nat)) : Prop :=
  ∀ n, t.counter n = min Config.counterTop (s.counter n + amountFor rises n)

/-- `t` is `s` but for the running counters. -/
def State.withRunning (s t : State) : State :=
  { s with control := { s.control with running := t.control.running } }

/-- `t` is `s` but for what the scan engine has read of the display frame while a write unit was applied
(log 15). -/
def State.withScan (s t : State) : State :=
  { s with
    scan := { s.scan with frame := t.scan.frame, read := t.scan.read }
    freeCount := t.freeCount }

/-- The size bucket of a reception of 8 to 128 bytes (R5), as its Lane A counter number. -/
def sizeBucket (len : Nat) : Nat := if len ≤ 31 then 13 else if len ≤ 63 then 14 else 15

/-! ## The laws -/

/-- Every addressed store is in its one canonical form. -/
structure State.Canonical (s : State) : Prop where
  peers : storeWf PeerEntry.cold s.peers = true
  slots : storeWf Slot.cold s.fields.slots = true
  cells : storeWf cellBlank s.store.cells = true
  owner : storeWf Owner.none s.store.owner = true
  cover : storeWf 0 s.store.cover = true
  frame : storeWf cellBlank s.scan.frame = true
  save : storeWf cellBlank s.overlay.save = true
  tape : storeWf TapeEntry.cold s.crawl.tape = true
  running : storeWf 0 s.control.running = true
  snapshot : storeWf 0 s.control.snapshot = true

/-- Every field of the configuration in force is legal (table of R156). -/
structure LegalConfiguration (c : Configuration) : Prop where
  station : c.station ≤ 63
  group : c.group ≤ 14
  palette : c.palette.length = 16
  hold : c.hold ≤ 255
  fade : c.fade ≤ 255
  blink : 2 ≤ c.blink ∧ c.blink ≤ 254 ∧ c.blink % 2 = 0
  staleUnits : 1 ≤ c.staleUnits ∧ c.staleUnits ≤ 255
  interval : 8 ≤ c.interval ∧ c.interval ≤ 255
  crawlRow : ∀ row, c.crawlRow = some row → row ≤ 47
  tileCount : 1 ≤ c.tileCount ∧ c.tileCount ≤ 8
  tilePosition : c.tilePosition < c.tileCount
  crawlStep : 1 ≤ c.crawlStep ∧ c.crawlStep ≤ 15

/-- Every count stays within its range, and every queue within its places (R6 to R11, 1.6, R22, R31, R32, R83, R93,
R109, R126, R148, R156). The last three fields say when the peer table is still as a cold reset left it, so that a
configuration can be put in force. -/
structure State.Bounded (s : State) : Prop where
  running : ∀ n, s.counter n ≤ Config.counterTop
  snapshot : ∀ n, s.snapCounter n ≤ Config.counterTop
  frameQueue : s.frameQueue.length ≤ 8
  transmitQueue : s.tx.frames.length ≤ 4
  queued : s.tx.queued ≤ 32
  attempts : ∀ lane, (s.lanePort lane).attempts ≤ 7
  hold : ∀ lane, (s.lanePort lane).hold ≤ 3
  holdGap : ∀ lane, (s.lanePort lane).tx = .holdGap → (s.lanePort lane).hold < 3
  laneAges : ∀ p, (s.peer p).ageA ≤ 255 ∧ (s.peer p).ageB ≤ 255
  beaconAge : ∀ p, (s.peer p).beaconAge ≤ 65535
  silenceAge : ∀ p, (s.peer p).silenceAge ≤ s.staleTime ∧
    ((s.peer p).state = .live → (s.peer p).silenceAge < s.staleTime)
  highlight : ∀ n, (s.slot n).highlight.remaining ≤ 255
  countdown : s.group.countdown ≤ 255
  read : s.scan.read ≤ 6144
  corrections : s.group.corrections ≤ 65535
  clamped : s.control.clamped ≤ 21
  config : LegalConfiguration s.control.config
  ran : s.control.mode = .running → s.control.coldCause = none
  loading : s.control.mode = .loading → s.control.coldCause ≠ none
  unheard : s.control.coldCause ≠ none → s.peers = []

/-- The law of R25: for every LIVE or SILENT peer, the window marks its high sequence. (The window has 32
flags, so it can mark none more than 31 behind.) -/
def State.WindowLaw (s : State) : Prop := ∀ p, (s.peer p).state ≠ .unheard → (s.peer p).marks 0 = true

/-- What a slot record keeps (R38, R42, R43, R45, R50, R53, R91). -/
structure Slot.Sound (r : Slot) : Prop where
  /-- A FREE slot holds no pending value (R50) and none of what UNBIND clears (R45). -/
  free : r.bound = false → r.pending = none ∧ r.shown = none ∧ r.direction = .none ∧
    r.highlight.stage = .none ∧ r.stale = false ∧ r.overflow = false ∧ r.restyle = false
  /-- The placement of a BOUND slot lies on the screen (R42). -/
  place : r.bound = true → 1 ≤ r.place.width ∧ r.place.width ≤ 16 ∧ r.place.row ≤ 47 ∧
    r.place.col + r.place.width ≤ 128
  /-- A slot without a shown value has no stale mark (R53). -/
  unshown : r.shown = none → r.stale = false
  /-- While the stale mark is set, the highlight is NONE (R91). -/
  stale : r.stale = true → r.highlight.stage = .none
  /-- A highlight of stage NONE has 0 frames remaining. -/
  rest : r.highlight.stage = .none → r.highlight.remaining = 0

/-- Every slot record keeps its laws. -/
def State.SlotLaw (s : State) : Prop := ∀ n, (s.slot n).Sound

/-- The law of R39 and R99: a BOUND slot owns exactly its cells, no cell belongs to two slots, and the
cells of the crawl row, when there is one, are CRAWL. -/
structure State.OwnerLaw (s : State) : Prop where
  owned : ∀ n, (s.slot n).bound = true → ∀ i ∈ (s.slot n).place.cells, s.ownerOf i = .slot n
  owner : ∀ i n, s.ownerOf i = .slot n → (s.slot n).bound = true ∧ i ∈ (s.slot n).place.cells
  crawl : ∀ i, s.ownerOf i = .crawl ↔ s.control.config.crawlRow = some (i / 128)

/-- The cell of key `i` lies in the rectangle of a level. -/
def Level.contains (lv : Level) (i : Nat) : Prop :=
  lv.top ≤ i / 128 ∧ i / 128 < lv.top + lv.height ∧ lv.left ≤ i % 128 ∧ i % 128 < lv.left + lv.width

/-- The save lengths of the levels, added. -/
def savedLength (levels : List Level) : Nat := (levels.map Level.length).sum

/-- The laws of R113 and R116: the depth is at most 8, the save space in use is the sum of the levels'
height × width and at most 2,048, each level's save space begins after those below it, and every cell's cover
level is 0 or the lowest-numbered open level that contains it. An OPEN in hand passes its tests (R114). -/
structure State.OverlayLaw (s : State) : Prop where
  depth : s.overlay.levels.length ≤ 8
  used : s.overlay.used = savedLength s.overlay.levels
  fits : s.overlay.used ≤ 2048
  level : ∀ k lv, s.overlay.levels[k]? = some lv →
    1 ≤ lv.height ∧ 1 ≤ lv.width ∧ lv.top + lv.height ≤ 48 ∧ lv.left + lv.width ≤ 128 ∧
    lv.length = lv.height * lv.width ∧ lv.offset = savedLength (s.overlay.levels.take k)
  uncovered : ∀ i, s.coverOf i = 0 → ∀ lv ∈ s.overlay.levels, ¬ lv.contains i
  covered : ∀ i k, s.coverOf i = k + 1 →
    (∃ lv, s.overlay.levels[k]? = some lv ∧ lv.contains i) ∧
    ∀ j lv, j < k → s.overlay.levels[j]? = some lv → ¬ lv.contains i
  inHand : ∀ op requester, s.overlay.request = some (.openLevel op requester) → s.openTest op = .done

/-- The law of R135: every valid tape entry stands at its tape index mod 1,024, at a distance from P
below 1,024. -/
def State.TapeLaw (s : State) : Prop :=
  ∀ k, (s.tapeAt k).valid = true →
    (s.tapeAt k).index.toNat % 1024 = k ∧ ((s.tapeAt k).index - s.crawl.p).toNat < 1024

/-- The law of R126 and R130: the reference that goes with each timing state; a FOLLOWING painter's reference
is lower than its own station unless it has none or its clock is BACKUP; a RUNNING painter that may transmit is
never FREE. The last five fields say in which states of the painter the group timer is FREE. -/
structure State.ReferenceLaw (s : State) : Prop where
  free : s.group.timing = .free → s.group.reference = 63
  leading : s.group.timing = .leading → s.group.reference = s.control.config.station
  following : s.group.timing = .following → s.group.reference < 63 ∧
    (s.group.reference < s.control.config.station ∨ s.control.config.station = 63 ∨
      s.control.clock = .backup)
  neverFree : s.control.mode = .running → s.mayTransmit = true → s.group.timing ≠ .free
  station : s.control.config.station ≤ 63
  defaulted : s.control.valid = false → s.control.config.station = 63
  resetting : s.control.mode = .loading ∨ s.control.mode = .clearing ∨ s.control.mode = .unwinding →
    s.group.timing = .free
  cold : s.control.coldCause ≠ none → s.group.timing = .free
  ran : s.control.mode = .running → s.control.coldCause = none

/-- What the holder of the port decided at its grant fits its unit (R102). -/
def State.decisionFits (s : State) : Prop :=
  match s.port.holder with
  | some .paint => s.port.decided = .abandoned ∨ ∃ r, s.port.decided = .slot r
  | some .crawl => ∃ cells, s.port.decided = .row cells ∧ cells.length = 128
  | some .overlay =>
    (s.overlay.request = some .orphan → ∃ k, k ≤ s.overlay.levels.length ∧ s.port.decided = .closes k) ∧
    (s.overlay.request ≠ some .orphan → s.port.decided = .standing)
  | some .text | none => s.port.decided = .standing

/-- The law of R101: the port is held by a writer whose unit is outstanding, a free port leaves no request
waiting, outside RUNNING and UNWINDING nothing waits behind the unit that holds it (R104, R152), and the holder's unit
has decided what it reads at its grant (R102). -/
structure State.ArbiterLaw (s : State) : Prop where
  holder : ∀ w, s.port.holder = some w → s.outstanding w = true
  idle : s.port.holder = none → ∀ w, s.outstanding w = false
  alone : s.control.mode ≠ .running → s.control.mode ≠ .unwinding →
    ∀ w, s.outstanding w = true → s.port.holder = some w
  decided : s.decisionFits

/-- The law of R78: while RUNNING, an IDLE paint unit is offered no work. -/
def State.PaintLaw (s : State) : Prop :=
  s.control.mode = .running → s.paint = none → s.restyleChoice = none ∧ s.paintChoice = none

/-- Slot `n` is the one whose granted paint or restyle a warm reset leaves to its unit's end (R54, R89). -/
def State.leftOut (s : State) (n : Nat) : Prop :=
  s.port.holder = some .paint ∧
    ((∃ g v src st, s.paint = some (.paint n g v src st)) ∨ ∃ g, s.paint = some (.restyle n g))

/-- The law of R53, with an outstanding silence event counted as the mark that it is about to set (log 9):
a BOUND slot with a shown value is stale exactly when its last source is not LIVE. The fields after `law` say
what the other states of the painter keep so that it holds again when RUNNING is entered. -/
structure State.StaleLaw (s : State) : Prop where
  law : s.control.mode = .running → ∀ n v, (s.slot n).bound = true → (s.slot n).shown = some v →
    ((s.slot n).stale = true ∨ (s.peer v.source).silenceDue = true ↔ (s.peer v.source).state ≠ .live)
  due : ∀ p, (s.peer p).silenceDue = true → (s.peer p).state ≠ .live
  unwinding : s.control.mode = .unwinding → s.peers = [] ∧ ∀ n, (s.slot n).bound = true →
    (s.slot n).shown.isSome = true → (s.slot n).stale = true ∨ s.leftOut n
  clearing : s.control.mode = .clearing → s.fields.slots = []
  hand : s.control.mode ≠ .running → s.hand = .idle

/-! ## How a frame reaches its handler (R20) -/

/-- The test by which a row of the table takes a frame from the frame queue (log 12); none for the other
rows. -/
def rowTakes : Instr → Option (RxFrame → Bool)
  | .quote => some (fun f => decide (f.kind = kindQuote))
  | .presence => some (fun f => decide (f.kind = kindPresence))
  | .unusableFrame => some takesUnusable
  | .bind => some (takesLayout 1)
  | .unbind => some (takesLayout 2)
  | .level => some (takesLayout 3)
  | .paintBase => some (takesPaint 0)
  | .paintTop => some (takesPaint 1)
  | .overlayOpen => some (takesOverlay 1)
  | .overlayClose => some (takesOverlay 2)
  | .overlayCloseAll => some (takesOverlay 3)
  | .crawl => some (fun f => decide (f.kind = kindCrawl))
  | .beacon => some (fun f => decide (f.kind = kindBeacon))
  | .status => some (takesQuery 1)
  | .capture => some (takesQuery 2)
  | .counters => some (takesQuery 3)
  | .slotQuery => some (takesQuery 4)
  | .restart _ => some (takesQuery 5)
  | .badRequest => some takesBadRequest
  | .carrierArrival _ | .frameEnd _ _ _ | .jabberCutoff _ | .gapExpiry _ | .transmitComplete _
  | .holdGapExpiry _ | .collision _ | .jamEnd _ | .backoffExpiry _ | .bindFill | .baseRun | .topRun
  | .openUnit | .closeUnit | .closeAllUnit | .orphanClose | .frameStart | .silenceEvent _
  | .beaconLapse _ | .highlightMove _ | .crawlStep | .beaconDue | .activeStart | .paintCompletion
  | .restyleCompletion | .crawlRepaint | .powerOn | .resetAssert | .heldEnd _ _ | .loadingComplete _
  | .clearingComplete | .unwinding | .referenceStop | .carrierDrop _ => none

/-- The dispatcher of `s` is ready and the frame `f` is the oldest of the queue, with `rest` behind it
(R8). -/
def State.readyFor (s : State) (f : RxFrame) (rest : List RxFrame) : Prop :=
  s.control.mode = .running ∧ s.hand = .idle ∧ s.frameQueue = f :: rest

/-- The dispatcher takes `f` and it passes steps 1 to 3: `u` is the painter when the frame reaches
step 4 (R20). -/
def State.reaches (s : State) (f : RxFrame) (u : State) : Prop :=
  ∃ rest, s.readyFor f rest ∧ ({ s with frameQueue := rest } : State).intake f = (u, true)

/-- `u` is the painter when the OVERLAY frame `f` is judged: it reaches step 4, or it waited in the dispatcher's hand
and the overlay unit has no request any more (R114). -/
def State.judges (s : State) (f : RxFrame) (u : State) : Prop :=
  s.reaches f u ∨ s.control.mode = .running ∧ s.hand = .overlayWait f ∧ s.overlay.request = none ∧
    u = { s with hand := .idle }

/-- A LAYOUT operation on `slot` is complete with this outcome and `more` operations to take: the next is to be
taken, or the REPLY is queued (R41). -/
def State.layoutDone (s : State) (job : LayoutJob) (more : List LayoutOp) (slot : Nat) (code : ResultCode)
    (generation : BitVec 8) : State :=
  s.layoutAdvance { job with
    remaining := more
    results := job.results ++ [{ slot := slot, code := code, generation := generation }] }

/-- The painter's election has run on the state as it stands: the lowest-numbered station of the candidate set is the
reference, LEADING when it is the own station and FOLLOWING when it is another; with no candidate the painter is FREE
(R129, R130). -/
def State.Elected (s : State) : Prop :=
  ∀ candidate : Nat → Prop,
    (∀ q, candidate q ↔ q < 63 ∧
      ((s.peer q).painter = true ∧ (s.peer q).beaconGroup = s.control.config.group ∧
          (s.peer q).beaconAge < 3 * s.control.config.interval ∨
        q = s.control.config.station ∧ s.control.valid = true ∧ s.control.clock = .reference)) →
    ((∀ q, ¬ candidate q) → s.group.timing = .free ∧ s.group.reference = 63) ∧
    ∀ q, candidate q → (∀ r, r < q → ¬ candidate r) → s.group.reference = q ∧
      s.group.timing = if q = s.control.config.station then .leading else .following

/-- `u` is `s` after step 2 has accepted `f` with the verdict `v`, `rest` behind it in the queue: the entry as decided,
with the beacon fields of a BEACON of 4 bytes and the election that follows; the peer table's counters; and, for a
sender that was not LIVE, its return event (R27, R31, R34). -/
structure State.Accepted (s u : State) (f : RxFrame) (rest : List RxFrame) (v : Verdict) : Prop where
  others : ∀ p, p ≠ f.sender → u.peer p = s.peer p
  entry : ¬(f.kind = kindBeacon ∧ f.payload.length = 4) → u.peer f.sender = v.entry ∧ u.group = s.group
  beacon : f.kind = kindBeacon → f.payload.length = 4 → u.Elected ∧
    u.peer f.sender = { v.entry with painter := true, beaconGroup := f.group, beaconAge := 0 } ∧
    u.group = { s.group with timing := u.group.timing, reference := u.group.reference }
  counters : s.risesTo u ((if v.restartRun then [(34, 1)] else []) ++ (if v.resync then [(33, 1)] else []))
  live : (s.peer f.sender).state = .live →
    u = { s.withRunning u with frameQueue := rest, peers := u.peers, group := u.group }
  returned : (s.peer f.sender).state ≠ .live → ∃ w : State,
    u = { w.paintTake with peers := u.peers, group := u.group } ∧
    w = { s.withRunning u with
      frameQueue := rest, peers := w.peers, fields := { s.fields with slots := w.fields.slots } } ∧
    w.peer f.sender = v.entry ∧ (∀ p, p ≠ f.sender → w.peer p = s.peer p) ∧
    (∀ n x, (s.slot n).bound = true → (s.slot n).shown = some x → x.source = f.sender →
      w.slot n = { s.slot n with stale := false, restyle := true }) ∧
    ∀ n, ((s.slot n).bound = false ∨ ∀ x, (s.slot n).shown = some x → x.source ≠ f.sender) → w.slot n = s.slot n

/-! ## The payloads of 11.2 -/

/-- An item as its bytes. -/
def Item.bytes (it : Item) : List Byte :=
  match it.value with
  | .numeric scale raw => [byteOf (32 + it.field), byteOf scale] ++ bytes32 raw
  | .text glyphs => [byteOf (64 + it.field), byteOf glyphs.length] ++ glyphs

/-- An item that the bytes of a frame can carry (R47). -/
def Item.Coded (it : Item) : Prop :=
  it.field < 32 ∧ match it.value with
    | .numeric scale _ => scale < 256
    | .text glyphs => 1 ≤ glyphs.length ∧ glyphs.length ≤ 12

/-- A LAYOUT operation as its bytes. -/
def LayoutOp.bytes : LayoutOp → List Byte
  | .bind op =>
    [1, byteOf op.slot, byteOf op.source] ++ bytes16 (BitVec.ofNat 16 op.instrument) ++
    [byteOf op.field, byteOf op.row, byteOf op.col, byteOf op.width, byteOf (16 * op.kindCode + op.ruleCode),
     byteOf (16 * op.places + op.expo),
     byteOf (16 * op.priority + 4 * op.spare + 2 * op.half.toNat + op.group.toNat), op.fg ++ op.bg, op.attrs]
  | .unbind slot => [2, byteOf slot]
  | .level slot prio => [3, byteOf slot, byteOf prio]

/-- A LAYOUT operation that the bytes of a frame can carry. -/
def LayoutOp.Coded : LayoutOp → Prop
  | .bind op =>
    op.slot < 256 ∧ op.source < 256 ∧ op.instrument < 65536 ∧ op.field < 256 ∧ op.row < 256 ∧ op.col < 256 ∧
      op.width < 256 ∧ op.kindCode < 16 ∧ op.ruleCode < 16 ∧ op.places < 16 ∧ op.expo < 16 ∧ op.priority < 16 ∧
      op.spare < 4
  | .unbind slot => slot < 256
  | .level slot prio => slot < 256 ∧ prio < 256

/-- An OVERLAY operation as its bytes. -/
def OverlayOp.bytes : OverlayOp → List Byte
  | .openLevel op =>
    [1, byteOf op.top, byteOf op.left, byteOf op.height, byteOf op.width, op.flags, op.fg ++ op.bg]
  | .close => [2]
  | .closeAll => [3]

/-- An OVERLAY operation that the bytes of a frame can carry. -/
def OverlayOp.Coded : OverlayOp → Prop
  | .openLevel op => op.top < 256 ∧ op.left < 256 ∧ op.height < 256 ∧ op.width < 256
  | .close | .closeAll => True

/-! ## Write units -/

/-- The close of a level that the overlay unit's granted unit closes restores this record to cell `i`: the level's save
record for that cell of its rectangle (R117 step 1). -/
def State.Restores (s : State) (i : Nat) (c : Cell) : Prop :=
  ∃ lv ∈ s.closing, ∃ y x, y < lv.height ∧ x < lv.width ∧ i = cellKey (lv.top + y) (lv.left + x) ∧
    c = s.saved (lv.offset + (i / 128 - lv.top) * lv.width + (i % 128 - lv.left))

/-- While the write unit that took the painter from `s` to `u` was applied, the scan engine read on: what it had read
of the display frame stays, and each cell read meanwhile was read as it stood before the unit, as the unit left it, or,
while a unit closes several levels, as the close of one of them restored it (R102, R109). -/
def State.ScansOn (s u : State) : Prop :=
  s.Canonical → storeWf cellBlank u.store.cells = true →
    s.scan.read ≤ u.scan.read ∧ (∀ i, i < s.scan.read → u.shownCell i = s.shownCell i) ∧
    ∀ i, s.scan.read ≤ i → i < u.scan.read →
      u.shownCell i = s.cell i ∨ s.Restores i (u.shownCell i) ∨ u.shownCell i = u.cell i

/-- Every event that a frame start raised has been taken (R109, log 9): outside RUNNING there are none but the highlight
moves, and in HELD no block takes those (R19, R126, R142, R152). -/
structure State.Settled (s : State) : Prop where
  silence : s.control.mode = .running → ∀ p, (s.peer p).silenceDue = false
  lapse : s.control.mode = .running → ∀ p, (s.peer p).lapseDue = false
  move : s.control.mode ≠ .held → ∀ n, s.moveDue n = false
  tick : s.control.mode = .running → s.crawl.tickDue = false
  beacon : s.control.mode = .running → s.group.countdown ≠ 0

/-- The base layer, the screen and the save area after a base-layer write of `new` to `cells`: those cells of
the base layer hold `new`, every other cell of the base layer is as it was, no covered cell changes on the screen, and
no save record changes but those that the written cells' writes go to (R103, R120). -/
def State.paintsBase (s t : State) (cells : List Nat) (new : Nat → Cell) : Prop :=
  t.store.cover = s.store.cover ∧ t.overlay.levels = s.overlay.levels ∧
    (∀ i ∈ cells, t.baseCell i = new i) ∧ (∀ i, i ∉ cells → t.baseCell i = s.baseCell i) ∧
    (∀ i, s.coverOf i ≠ 0 → t.cell i = s.cell i) ∧
    ∀ j, (∀ i ∈ cells, s.saveKey i ≠ some j) → t.saved j = s.saved j

/-- The table of R101: the writer that the arbiter grants next, by which of the four writers' requests wait. -/
def grantOrder (overlay crawl paint text : Bool) : Option Writer :=
  if overlay then some .overlay else if crawl then some .crawl else if paint then some .paint
  else if text then some .text else none

/-- The port has become free and the arbiter grants this writer's request next, or none waits (R101). -/
def State.portPassed (s : State) : Option Writer → State
  | some w => ({ s with port := { holder := none, decided := .standing } } : State).grant w
  | none => { s with port := { holder := none, decided := .standing } }

/-- `t` is `w` after the orphan check: a SILENT requester of the top level makes an orphan close the request, unless
one is in hand (R121). -/
def State.OrphansChecked (w t : State) : Prop :=
  (∀ below lv, w.overlay.levels = below ++ [lv] → (w.peer lv.requester).state = .silent →
    w.overlay.request = none →
    t = ({ w with overlay := { w.overlay with request := some .orphan } } : State).present .overlay) ∧
  (w.overlay.request ≠ none ∨ w.overlay.levels = [] ∨
    (∃ below lv, w.overlay.levels = below ++ [lv] ∧ (w.peer lv.requester).state ≠ .silent) → t = w)

/-- `t` is the painter after the overlay unit's write unit for an OVERLAY frame, when `u` is the painter with the unit
applied: the port is granted on, the frame is answered DONE with the level concerned, the depth and the count in use,
and the orphan check is made (R101, R119, R121). -/
def State.OverlayAnswered (u t : State) (sender : Nat) (seq : BitVec 16) (op level : Nat) : Prop :=
  ((u.portPassed (grantOrder false u.crawl.request u.paint.isSome u.text.isSome)).queueReply sender kindOverlay seq
    .done ([byteOf op, byteOf level, byteOf u.overlay.levels.length] ++
      bytes16 (BitVec.ofNat 16 u.overlay.used))).OrphansChecked t

/-! ## Resets (R17 to R19, R54, R89, R104, R124, R126, R142, R148, R152 to R154) -/

/-- The values that a cold reset sets from the start of HELD. -/
structure State.ColdValues (t : State) : Prop where
  station : t.control.config.station = 63
  invalid : t.control.valid = false ∧ t.control.clamped = 0
  queues : t.frameQueue = [] ∧ t.tx = { frames := [], seq := 0, queued := 0 }
  peers : ∀ p, t.peer p = PeerEntry.cold
  counters : ∀ n, t.counter n = 0 ∧ t.snapCounter n = 0
  group : t.group = { phase := 0, timing := .free, reference := 63, corrections := 0, countdown := 0 }
  screen : t.scan.blank = true ∧ ∀ row col, t.pixel row col = none

/-- `t` is `s` in HELD: the ports stopped, the dispatcher's hand dropped and the waiting requests withdrawn, and
whatever else a cold reset of cause POWER does not set as it was. -/
def State.HeldFrom (s t : State) : Prop :=
  t.control.mode = .held ∧ t.hand = .idle ∧
    (∀ lane, t.lanePort lane =
      { rx := .closed, carrier := (s.lanePort lane).carrier, tx := .idle, hand := none, attempts := 0, hold := 0 }) ∧
    t.overlay = { s.overlay with
      request := if s.port.holder = some .overlay then s.overlay.request else none } ∧
    t.crawl.request = (s.crawl.request && decide (s.port.holder = some .crawl)) ∧
    t.paint = (if s.port.holder = some .paint then s.paint else none) ∧
    t.text = (if s.port.holder = some .text then s.text else none) ∧
    t.port = s.port ∧ t.store = s.store ∧ t.fields = s.fields ∧ t.crawl.p = s.crawl.p ∧
    t.crawl.tape = s.crawl.tape

/-- `t` is `s` but for what HELD drops. -/
def State.OnlyHeldFrom (s t : State) : Prop :=
  s.HeldFrom t ∧ t.frameQueue = s.frameQueue ∧ t.tx = s.tx ∧ t.peers = s.peers ∧ t.group = s.group ∧
    t.scan = s.scan ∧ t.crawl = { s.crawl with request := t.crawl.request } ∧
    t.control = { s.control with
      mode := .held, heldByPower := t.control.heldByPower, coldCause := t.control.coldCause
      clock := t.control.clock }

/-- `t` is `u` after the beginning of a warm reset: the queues and the dispatcher's hand are emptied, every peer entry
returns to its cold values, pending values are discarded, shown fields are marked stale, the clash latch is cleared,
and the sequence, the configuration, the phase count, P, the tape, the cells and both counter banks are kept. Open
levels are unwound first; with none, and no granted unit, the painter is RUNNING at once (log 18). -/
structure State.WarmlyReset (u t : State) (cause : Cause) (oscillator : Bool) : Prop where
  emptied : t.frameQueue = [] ∧ t.hand = .idle ∧ t.tx = { u.tx with frames := [] }
  peers : ∀ p, t.peer p = PeerEntry.cold
  control : t.control = { u.control with
    mode := t.control.mode, coldCause := t.control.coldCause, cause := cause, clash := false
    clock := if oscillator then .reference else u.control.clock }
  timer : t.group.phase = u.group.phase ∧ t.group.corrections = u.group.corrections
  crawl : t.crawl.p = u.crawl.p ∧ t.crawl.tape = u.crawl.tape ∧ t.crawl.repeatMark = false
  kept : t.store = u.store ∧ t.scan = u.scan ∧ t.fields.stamp = u.fields.stamp ∧
    t.overlay = { u.overlay with request := t.overlay.request }
  ports : ∀ lane, t.lanePort lane =
    { rx := if t.control.mode = .running then rxOpened (u.lanePort lane).carrier else .closed
      carrier := (u.lanePort lane).carrier, tx := .idle, hand := none, attempts := 0, hold := 0 }
  slots : ∀ n, ¬ u.leftOut n → t.slot n = { u.slot n with
    pending := none
    highlight := { (u.slot n).highlight with stage := .none, remaining := 0 }
    stale := (u.slot n).stale || ((u.slot n).bound && (u.slot n).shown.isSome)
    restyle := (t.slot n).restyle }
  atOnce : u.overlay.levels = [] → u.port.holder = none → t.control.mode = .running ∧
    t.group.countdown = u.control.config.interval
  unwinds : u.overlay.levels ≠ [] ∨ u.port.holder ≠ none → t.control.mode = .unwinding ∧
    t.group.timing = .free ∧ t.group.reference = 63 ∧
    ∀ n, ¬ u.leftOut n → (t.slot n).restyle = ((u.slot n).bound && (u.slot n).shown.isSome)
  request : u.overlay.levels ≠ [] → u.port.holder ≠ some .overlay →
    t.overlay.request = some .unwinding ∧ t.port.holder = some (u.port.holder.getD .overlay)

/-! ## Colours -/

/-- The tables of R90 and R91: the foreground and background of a slot's cells. -/
structure Slot.Coloured (roles : Roles) (r : Slot) (fg bg : Colour) : Prop where
  stale : r.stale = true → fg = roles.stale
  overflow : r.stale = false → r.overflow = true → fg = roles.overflow
  up : r.stale = false → r.overflow = false → r.rule = .tick → r.direction = .up → fg = roles.up
  down : r.stale = false → r.overflow = false → r.rule = .tick → r.direction = .down → fg = roles.down
  level : r.stale = false → r.overflow = false → r.rule = .tick → r.direction = .none → fg = r.base.fg
  positive : r.stale = false → r.overflow = false → r.rule = .sign → ∀ scale raw src,
    r.shown = some ⟨.numeric scale raw, src⟩ → 0 < raw.toInt → fg = roles.up
  negative : r.stale = false → r.overflow = false → r.rule = .sign → ∀ scale raw src,
    r.shown = some ⟨.numeric scale raw, src⟩ → raw.toInt < 0 → fg = roles.down
  zero : r.stale = false → r.overflow = false → r.rule = .sign → ∀ scale src,
    r.shown = some ⟨.numeric scale 0, src⟩ → fg = r.base.fg
  unshown : r.stale = false → r.overflow = false → r.rule = .sign → r.shown = none → fg = r.base.fg
  plain : r.stale = false → r.overflow = false → r.rule = .plain → fg = r.base.fg
  rest : r.highlight.stage = .none → bg = r.base.bg
  flashUp : r.highlight.stage = .flash → r.highlight.flashUp = true → bg = roles.flashUp
  flashDown : r.highlight.stage = .flash → r.highlight.flashUp = false → bg = roles.flashDown
  fade1 : r.highlight.stage = .fade1 → bg = roles.fade1
  fade2 : r.highlight.stage = .fade2 → bg = roles.fade2
  fade3 : r.highlight.stage = .fade3 → bg = roles.fade3

end Sys2Proof.Machine
end

