-- ==== Sys2Proof/Certificates/Slice0/Obligations.lean ====
section
/-!
DEFINITION. The statements for the provers. OBLIGATIONS.json gives each its rule, its tier and its kind.
-/
section

open Sys2Proof Sys2Proof.Machine

/-! ## The whole machine -/

/-- One step takes the command at the front of the queue and runs it with the queue's rest. -/
def Obligations.StepRunsFrontCommand : Prop :=
  ∀ (c : Instr) (rest : List Instr) (s : State), s.pending = c :: rest →
    step s = exec c { s with pending := rest }

/-- No command touches the queue of waiting commands. -/
def Obligations.ExecKeepsQueue : Prop :=
  ∀ (c : Instr) (s t : State), exec c s = .next t → t.pending = s.pending

/-- Every command whose operands an event can carry goes on from every state, also where its event cannot occur and it
changes nothing (log 4); any other is refused as ill-formed (log 6: the operands are the model's). -/
def Obligations.WellFormedCommandsGoOn : Prop :=
  ∀ (c : Instr) (s : State),
    (c.wf = true → ∃ t, exec c s = .next t) ∧
    (c.wf = false → ∃ name, exec c s = .refused (.illFormed name))

/-! ## Laws that every step keeps -/

/-- The machine right after reset meets every law. -/
def Obligations.ResetMeetsLaws : Prop :=
  State.reset.Canonical ∧ State.reset.Bounded ∧ State.reset.WindowLaw ∧ State.reset.SlotLaw ∧
    State.reset.OwnerLaw ∧ State.reset.OverlayLaw ∧ State.reset.TapeLaw ∧ State.reset.ReferenceLaw ∧
    State.reset.ArbiterLaw ∧ State.reset.PaintLaw ∧ State.reset.StaleLaw

/-- Every addressed store keeps its one canonical form. -/
def Obligations.StepKeepsCanonical : Prop :=
  ∀ s t : State, s.Canonical → step s = .next t → t.Canonical

/-- Every count, age, countdown and queue stays within its range, and the configuration in force stays legal. -/
def Obligations.StepKeepsBounds : Prop :=
  ∀ s t : State, s.Canonical → s.Bounded → step s = .next t → t.Bounded

/-- Every LIVE or SILENT peer's window marks its high sequence. -/
def Obligations.StepKeepsWindowLaw : Prop :=
  ∀ s t : State, s.Canonical → s.WindowLaw → step s = .next t → t.WindowLaw

/-- Every slot record keeps its laws: a FREE slot holds no pending value. -/
def Obligations.StepKeepsSlotLaw : Prop :=
  ∀ s t : State, s.Canonical → s.SlotLaw → step s = .next t → t.SlotLaw

/-- A BOUND slot owns exactly its cells, no cell belongs to two slots, and the crawl row stays CRAWL. (That the crawl
row is the earlier configuration's from the start of a cold reset until the image is validated is log 20.) -/
def Obligations.StepKeepsOwnerLaw : Prop :=
  ∀ s t : State, s.Canonical → s.Bounded → s.SlotLaw → s.OwnerLaw → step s = .next t → t.OwnerLaw

/-- The overlay stack, its save space and the cover map keep the laws of R113 and R116. -/
def Obligations.StepKeepsOverlayLaw : Prop :=
  ∀ s t : State, s.Canonical → s.OverlayLaw → step s = .next t → t.OverlayLaw

/-- Every valid tape entry stays at its place, within 1,024 of P. -/
def Obligations.StepKeepsTapeLaw : Prop :=
  ∀ s t : State, s.Canonical → s.TapeLaw → step s = .next t → t.TapeLaw

/-- The timing state and the reference keep the law of R130. -/
def Obligations.StepKeepsReferenceLaw : Prop :=
  ∀ s t : State, s.ReferenceLaw → step s = .next t → t.ReferenceLaw

/-- The write port keeps the law of R101, and what the granted unit decided at its grant fits the unit (R102; log 7). -/
def Obligations.StepKeepsArbiterLaw : Prop :=
  ∀ s t : State, s.ArbiterLaw → step s = .next t → t.ArbiterLaw

/-- While RUNNING, an IDLE paint unit is never left with work offered. -/
def Obligations.StepKeepsPaintLaw : Prop :=
  ∀ s t : State, s.Canonical → s.PaintLaw → step s = .next t → t.PaintLaw

/-- A shown slot is stale exactly when its last source is not LIVE. -/
def Obligations.StepKeepsStaleLaw : Prop :=
  ∀ s t : State, s.Canonical → s.StaleLaw → step s = .next t → t.StaleLaw

/-! ## Lanes -/

/-- Carrier appears: a ready receive side opens a reception, and GAP goes back to DEFER. Carrier that the
receive side ignores drops: nothing is counted, a reception may be opened again, and DEFER goes to GAP. Carrier
beyond 256 bytes closes the reception: 1 to the jabber counter, and the lane is ignored. -/
def Obligations.CarrierEvents : Prop :=
  ∀ (lane : Lane) (s : State),
    ((s.lanePort lane).carrier = false → ∃ t, exec (.carrierArrival lane) s = .next t ∧
      t = s.setLanePort lane (t.lanePort lane) ∧
      (t.lanePort lane).carrier = true ∧
      (t.lanePort lane).hand = (s.lanePort lane).hand ∧
      (t.lanePort lane).attempts = (s.lanePort lane).attempts ∧
      (t.lanePort lane).hold = (s.lanePort lane).hold ∧
      ((s.lanePort lane).rx = .ready → (t.lanePort lane).rx = .receiving) ∧
      ((s.lanePort lane).rx ≠ .ready → (t.lanePort lane).rx = (s.lanePort lane).rx) ∧
      (∀ n, (s.lanePort lane).tx = .gap n → (t.lanePort lane).tx = .defer) ∧
      ((∀ n, (s.lanePort lane).tx ≠ .gap n) → (t.lanePort lane).tx = (s.lanePort lane).tx)) ∧
    ((s.lanePort lane).carrier = true → (s.lanePort lane).rx ≠ .receiving →
      ∃ t, exec (.carrierDrop lane) s = .next t ∧
        t = s.setLanePort lane (t.lanePort lane) ∧
        (t.lanePort lane).carrier = false ∧
        (t.lanePort lane).hand = (s.lanePort lane).hand ∧
        (t.lanePort lane).attempts = (s.lanePort lane).attempts ∧
        (t.lanePort lane).hold = (s.lanePort lane).hold ∧
        ((s.lanePort lane).rx = .closed → (t.lanePort lane).rx = .closed) ∧
        ((s.lanePort lane).rx ≠ .closed → (t.lanePort lane).rx = .ready) ∧
        ((s.lanePort lane).tx = .defer → (t.lanePort lane).tx = .gap (s.handGap lane)) ∧
        ((s.lanePort lane).tx ≠ .defer → (t.lanePort lane).tx = (s.lanePort lane).tx)) ∧
    ((∀ n, s.counter n ≤ Config.counterTop) → (s.lanePort lane).rx = .receiving →
      ∃ t, exec (.jabberCutoff lane) s = .next t ∧
        t = (s.setLanePort lane { s.lanePort lane with rx := .ignoring }).withRunning t ∧
        s.risesTo t [(laneCounter lane 7, 1)])

/-- A frame end reads the bytes from the bit-times received, discards the bits after the last complete byte, and
places the reception in exactly one class; it adds 1 to that class's counter and to at most one size bucket, and a good
frame, with its arrival lane, joins a frame queue that holds fewer than 8 entries. The transmit side leaves DEFER and
keeps its frame in hand. (The bit-times as operands are log 6: carrier is held through them, for no 2 bit-times within
them pass without a transition, and the last transition is in the last of them.) -/
def Obligations.FrameEndClassifies : Prop :=
  ∀ (lane : Lane) (times rest : List BitTime) (levels : List Bool) (bytes : List Byte) (violation : Bool) (s : State),
    bytes = lineBytes times → violation = lineViolation (times ++ rest) →
    times.length % 8 = 0 → rest.length < 8 → times.length + rest.length ≤ 2048 →
    levels = (times ++ rest).flatMap (fun b => [b.first, b.second]) →
    (∀ i level, i + 4 ≤ levels.length → ∃ j, i ≤ j ∧ j < i + 4 ∧ levels[j]? ≠ some level) →
    (∀ level, 3 ≤ levels.length → ∃ j, levels.length ≤ j + 3 ∧ j < levels.length ∧ levels[j]? ≠ some level) →
    (∀ n, s.counter n ≤ Config.counterTop) → (s.lanePort lane).rx = .receiving →
    ∃ t, exec (.frameEnd lane times rest) s = .next t ∧
      t = { (s.setLanePort lane (t.lanePort lane)).withRunning t with frameQueue := t.frameQueue } ∧
      t.lanePort lane = { s.lanePort lane with
        carrier := false, rx := .ready
        tx := if (s.lanePort lane).tx = .defer then .gap (s.handGap lane) else (s.lanePort lane).tx } ∧
      (violation = true →
        s.risesTo t [(laneCounter lane 3, 1)] ∧ t.frameQueue = s.frameQueue) ∧
      (violation = false → bytes.length < 8 → crcGood bytes = true →
        s.risesTo t [(laneCounter lane 4, 1)] ∧ t.frameQueue = s.frameQueue) ∧
      (violation = false → bytes.length < 8 → crcGood bytes = false →
        s.risesTo t [(laneCounter lane 5, 1)] ∧ t.frameQueue = s.frameQueue) ∧
      (violation = false → 128 < bytes.length → crcGood bytes = true →
        s.risesTo t [(laneCounter lane 6, 1)] ∧ t.frameQueue = s.frameQueue) ∧
      (violation = false → 128 < bytes.length → crcGood bytes = false →
        s.risesTo t [(laneCounter lane 7, 1)] ∧ t.frameQueue = s.frameQueue) ∧
      (violation = false → 8 ≤ bytes.length → bytes.length ≤ 128 → crcGood bytes = false →
        s.risesTo t [(laneCounter lane 2, 1), (laneCounter lane (sizeBucket bytes.length), 1)] ∧
          t.frameQueue = s.frameQueue) ∧
      (violation = false → 8 ≤ bytes.length → bytes.length ≤ 128 → crcGood bytes = true →
        (RxFrame.sender ⟨bytes, lane⟩ = 63 ∨ bytes.length ≠ 8 + RxFrame.payloadLength ⟨bytes, lane⟩) →
        s.risesTo t [(laneCounter lane 8, 1), (laneCounter lane (sizeBucket bytes.length), 1)] ∧
          t.frameQueue = s.frameQueue) ∧
      (violation = false → 8 ≤ bytes.length → bytes.length ≤ 128 → crcGood bytes = true →
        RxFrame.sender ⟨bytes, lane⟩ ≠ 63 → bytes.length = 8 + RxFrame.payloadLength ⟨bytes, lane⟩ →
        s.risesTo t
          ([(laneCounter lane 0, 1), (laneCounter lane 1, bytes.length),
            (laneCounter lane (sizeBucket bytes.length), 1)] ++
            (if RxFrame.tag ⟨bytes, lane⟩ = lane then [] else [(laneCounter lane 9, 1)]) ++
            (if s.frameQueue.length < 8 then [] else [(laneCounter lane 10, 1)])) ∧
          t.frameQueue =
            if s.frameQueue.length < 8 then s.frameQueue ++ [⟨bytes, lane⟩] else s.frameQueue)

/-- The gap is 20 bit-times for a BEACON in hand and 24 for a REPLY. GAP expires: the port goes to SEND with the frame
in hand and hold count 1. The burst-hold gap expires: the next frame is begun and the hold count rises by 1. -/
def Obligations.PortBeginsFrame : Prop :=
  ∀ (lane : Lane) (s : State) (f : TxFrame), s.handFrame lane = some f →
    s.handGap lane = (match f.kind with
      | .beacon => 20
      | .reply => 24) ∧
    (∀ n, (s.lanePort lane).tx = .gap n →
      exec (.gapExpiry lane) s = .next (s.setLanePort lane { s.lanePort lane with
        rx := .closed, tx := .sending (f.encode s.control.config.station lane), hold := 1 })) ∧
    ((s.lanePort lane).tx = .holdGap →
      exec (.holdGapExpiry lane) s = .next (s.setLanePort lane { s.lanePort lane with
        tx := .sending (f.encode s.control.config.station lane), hold := (s.lanePort lane).hold + 1 }))

/-- A frame completes in SEND: it is SENT on this lane, leaves the queue when the other lane does not wait for
it, and the port goes on with the next frame held for this lane, at most three in one hold. -/
def Obligations.TransmitCompletes : Prop :=
  ∀ (lane : Lane) (s : State) (bytes : List Byte) (q : BitVec 16),
    s.control.mode = .running → (s.lanePort lane).tx = .sending bytes → (s.lanePort lane).hand = some q →
    ∃ t, exec (.transmitComplete lane) s = .next t ∧
      t = { s.setLanePort lane (t.lanePort lane) with tx := t.tx } ∧
      t.tx = { s.tx with
        frames := (s.tx.frames.map (fun f => if f.seq = q then f.setSend lane .sent else f)).filter
          TxFrame.isWaiting } ∧
      (t.lanePort lane).carrier = (s.lanePort lane).carrier ∧ (t.lanePort lane).attempts = 0 ∧
      (∀ f, t.firstWaiting lane = some f → (s.lanePort lane).hold < 3 →
        (t.lanePort lane).tx = .holdGap ∧ (t.lanePort lane).hand = some f.seq ∧
          (t.lanePort lane).hold = (s.lanePort lane).hold ∧ (t.lanePort lane).rx = (s.lanePort lane).rx) ∧
      (∀ f, t.firstWaiting lane = some f → 3 ≤ (s.lanePort lane).hold →
        (t.lanePort lane).tx = (if (s.lanePort lane).carrier then .defer else .gap (t.handGap lane)) ∧
          (t.lanePort lane).hand = some f.seq ∧ (t.lanePort lane).hold = 0 ∧
          (t.lanePort lane).rx = rxOpened (s.lanePort lane).carrier) ∧
      (t.firstWaiting lane = none →
        (t.lanePort lane).tx = .idle ∧ (t.lanePort lane).hand = none ∧ (t.lanePort lane).hold = 0 ∧
          (t.lanePort lane).rx = rxOpened (s.lanePort lane).carrier)

/-- A collision stops the frame, jams, and counts the attempt and the collision; the eighth attempt abandons the
frame on this lane and counts a give-up. (The level with which the jam begins is a free value, drawn for each collision
anew, log 19: the statement holds for either.) At the end of the jam the port backs off for
B = (station + attempts) mod 2^min(attempts, 4) slots, or is IDLE after a give-up; when BACKOFF ends, or at once when B
is 0, it goes to DEFER or GAP by the carrier. -/
def Obligations.CollisionBacksOff : Prop :=
  ∀ (lane : Lane) (s : State),
    (∀ bytes q, (∀ n, s.counter n ≤ Config.counterTop) →
      (s.lanePort lane).tx = .sending bytes → (s.lanePort lane).hand = some q →
      ∃ (t : State) (high : Bool), exec (.collision lane) s = .next t ∧
        ((s.lanePort lane).attempts + 1 < 8 →
          t = { (s.setLanePort lane { s.lanePort lane with
            tx := .jam false high, attempts := (s.lanePort lane).attempts + 1, hold := 0 }).withRunning t with
            freeCount := t.freeCount } ∧
          s.risesTo t [(laneCounter lane 11, 1)]) ∧
        (8 ≤ (s.lanePort lane).attempts + 1 →
          t = { (s.setLanePort lane { s.lanePort lane with
            tx := .jam true high, hand := none, attempts := 0, hold := 0 }).withRunning t with
            freeCount := t.freeCount
            tx := { s.tx with
              frames := (s.tx.frames.map
                (fun f => if f.seq = q then f.setSend lane .abandoned else f)).filter
                  TxFrame.isWaiting } } ∧
          s.risesTo t [(laneCounter lane 11, 1), (laneCounter lane 12, 1)])) ∧
    (∀ high, (s.lanePort lane).tx = .jam false high → ∃ b, b ≤ 15 ∧
      b = (s.control.config.station + (s.lanePort lane).attempts) % 2 ^ min (s.lanePort lane).attempts 4 ∧
      exec (.jamEnd lane) s = .next (s.setLanePort lane { s.lanePort lane with
        rx := rxOpened (s.lanePort lane).carrier
        tx := if b = 0 then (if (s.lanePort lane).carrier then .defer else .gap (s.handGap lane))
              else .backoff b })) ∧
    (∀ b, (s.lanePort lane).tx = .backoff b →
      exec (.backoffExpiry lane) s = .next (s.setLanePort lane { s.lanePort lane with
        tx := if (s.lanePort lane).carrier then .defer else .gap (s.handGap lane) })) ∧
    (∀ high, (s.lanePort lane).tx = .jam true high → s.control.mode = .running → ∃ t,
      exec (.jamEnd lane) s = .next t ∧ t = s.setLanePort lane (t.lanePort lane) ∧
      (t.lanePort lane).rx = rxOpened (s.lanePort lane).carrier ∧
      (s.firstWaiting lane = none → (t.lanePort lane).tx = .idle) ∧
      ∀ f, s.firstWaiting lane = some f → (t.lanePort lane).hand = some f.seq ∧
        (t.lanePort lane).tx = if (s.lanePort lane).carrier then .defer else .gap (t.handGap lane))

/-- What a port sends is a good frame, and a receiver reads every header field and the payload from it as the
transmit queue completed them, with the tag of the lane it is sent on. On the line every bit is a transition at the
middle of its bit-time, most significant bit first, and the bytes read back from the line; a bit-time without that
transition is a violation. A port in SEND drives its frame so, or 32 bit-times of jam that violate the code and reverse
at each boundary, from the level drawn at its collision on (log 19), and in any other state nothing. -/
def Obligations.SentFrameReadsBack : Prop :=
  (∀ (f : TxFrame) (station : Nat) (lane arrival : Lane),
    station < 63 → f.group < 16 → f.dest < 64 → f.payload.length ≤ 120 →
    classify (f.encode station lane) false = .good ∧
      RxFrame.sender ⟨f.encode station lane, arrival⟩ = station ∧
      RxFrame.tag ⟨f.encode station lane, arrival⟩ = lane ∧
      RxFrame.restart ⟨f.encode station lane, arrival⟩ = f.restart ∧
      RxFrame.seq ⟨f.encode station lane, arrival⟩ = f.seq ∧
      RxFrame.kind ⟨f.encode station lane, arrival⟩ = f.kind.code ∧
      RxFrame.group ⟨f.encode station lane, arrival⟩ = f.group ∧
      RxFrame.dest ⟨f.encode station lane, arrival⟩ = f.dest ∧
      (byteAt (f.encode station lane) 4).toNat % 4 = f.kind.frameClass ∧
      RxFrame.payload ⟨f.encode station lane, arrival⟩ = f.payload) ∧
  (∀ bytes : List Byte, lineBytes (lineCode bytes) = bytes ∧ lineViolation (lineCode bytes) = false ∧
    ∀ (i : Nat) (b : Byte), bytes[i]? = some b → ∀ j, j < 8 →
      (lineCode bytes)[8 * i + j]? =
        some { first := !b.getLsbD (7 - j), second := b.getLsbD (7 - j) }) ∧
  (∀ times : List BitTime, lineViolation times = true ↔ ∃ b ∈ times, b.first = b.second) ∧
  ∀ (s : State) (lane : Lane),
    (∀ bytes, s.control.mode = .running → (s.lanePort lane).tx = .sending bytes →
      s.driven lane = some (lineCode bytes)) ∧
    (∀ giveUp high, s.control.mode = .running → (s.lanePort lane).tx = .jam giveUp high →
      ∃ jam : List BitTime, s.driven lane = some jam ∧ jam.length = 32 ∧
        ∀ i, i < 32 → ∃ level, jam[i]? = some { first := level, second := level } ∧
          (level = high ↔ i % 2 = 0)) ∧
    (s.control.mode ≠ .running ∨
      (∀ bytes, (s.lanePort lane).tx ≠ .sending bytes) ∧
        (∀ giveUp high, (s.lanePort lane).tx ≠ .jam giveUp high) →
      s.driven lane = none)

/-- A REPLY is dropped and counted while transmission is inhibited or the queue holds 4 frames; otherwise it
joins the tail with the next sequence number and both send states WAITING, and an idle port takes it in hand. -/
def Obligations.ReplyQueuedOrDropped : Prop :=
  ∀ (s : State) (dest kind : Nat) (seq : BitVec 16) (code : ResultCode) (data : List Byte),
    (∀ n, s.counter n ≤ Config.counterTop) →
    ∃ t, t = s.queueReply dest kind seq code data ∧
      (s.inhibited = true ∨ 4 ≤ s.tx.frames.length →
        t = s.withRunning t ∧ s.risesTo t [(47, 1)]) ∧
      (s.inhibited = false → s.tx.frames.length < 4 →
        t = { s with tx := t.tx, portA := t.portA, portB := t.portB } ∧
        t.tx.frames = s.tx.frames ++ [
          { kind := .reply, group := s.control.config.group, dest := dest, seq := s.tx.seq
            restart := decide (s.tx.queued < 32)
            payload := [byteOf kind] ++ bytes16 seq ++ [byteOf code.code] ++ data
            sendA := .waiting, sendB := .waiting }] ∧
        t.tx.seq = s.tx.seq + 1 ∧ t.tx.queued = min 32 (s.tx.queued + 1) ∧
        ∀ lane, ((s.lanePort lane).tx ≠ .idle → t.lanePort lane = s.lanePort lane) ∧
          ((s.lanePort lane).tx = .idle → s.control.mode = .running → s.firstWaiting lane = none →
            (t.lanePort lane).hand = some s.tx.seq ∧
            (t.lanePort lane).tx =
              if (s.lanePort lane).carrier then .defer else .gap (t.handGap lane)))

/-! ## Peers and the dispatcher -/

/-- A frame that bears the own station number is discarded at step 1 by whichever row takes it: one station
clash is counted, the clash latch is set and FAULT asserted, and nothing else changes. -/
def Obligations.ClashDiscarded : Prop :=
  ∀ (c : Instr) (takes : RxFrame → Bool) (s : State) (f : RxFrame) (rest : List RxFrame),
    (∀ n, s.counter n ≤ Config.counterTop) →
    rowTakes c = some takes → s.readyFor f rest → takes f = true → f.sender = s.control.config.station →
    ∃ t, exec c s = .next t ∧
      t = { s with
        frameQueue := rest
        control := { s.control with clash := true, running := t.control.running } } ∧
      s.risesTo t [(35, 1)] ∧ t.faultAsserted = true

/-- A frame of an UNHEARD or SILENT sender is accepted whatever its sequence, and re-initialises the entry. So
does a flagged frame of a LIVE sender whose restart run is closed, as a new restart run. -/
def Obligations.EntryReinitialised : Prop :=
  ∀ (e : PeerEntry) (seq : BitVec 16) (flag : Bool),
    (e.state ≠ .live → e.judge seq flag =
      { entry := { e with high := seq, window := 1, run := flag, silenceAge := 0, state := .live }
        accepted := true, restartRun := false, resync := false }) ∧
    (e.state = .live → flag = true → e.run = false → e.judge seq flag =
      { entry := { e with high := seq, window := 1, run := true, silenceAge := 0 }
        accepted := true, restartRun := true, resync := false })

/-- A frame of a LIVE sender that does not start a restart run, by its distance from the high: a duplicate at 0;
ahead, the window moves; behind within 31, by its flag; further behind, a sequence resync. -/
def Obligations.WindowDecides : Prop :=
  ∀ (e : PeerEntry) (seq : BitVec 16) (flag : Bool), e.state = .live → (flag = false ∨ e.run = true) →
    ∃ v, v = e.judge seq flag ∧ v.restartRun = false ∧
      v.entry = { e with
        high := v.entry.high, window := v.entry.window, run := v.entry.run
        silenceAge := v.entry.silenceAge } ∧
      (v.accepted = false → v.entry = e ∧ v.resync = false) ∧
      (v.accepted = true → v.entry.silenceAge = 0 ∧ v.entry.run = (e.run && flag)) ∧
      (seq = e.high → v.accepted = false) ∧
      (1 ≤ (seq - e.high).toNat → (seq - e.high).toNat ≤ 32767 →
        v.accepted = true ∧ v.resync = false ∧ v.entry.high = seq ∧
        ∀ i, i < 32 → (v.entry.marks i = true ↔
          i = 0 ∨ (seq - e.high).toNat ≤ i ∧ e.marks (i - (seq - e.high).toNat) = true)) ∧
      (32768 ≤ (seq - e.high).toNat → (e.high - seq).toNat ≤ 31 →
        (e.marks (e.high - seq).toNat = true → v.accepted = false) ∧
        (e.marks (e.high - seq).toNat = false →
          v.accepted = true ∧ v.resync = false ∧ v.entry.high = e.high ∧
          ∀ i, i < 32 → (v.entry.marks i = true ↔ i = (e.high - seq).toNat ∨ e.marks i = true))) ∧
      (32768 ≤ (seq - e.high).toNat → 32 ≤ (e.high - seq).toNat →
        v.accepted = true ∧ v.resync = true ∧ v.entry.high = seq ∧ v.entry.window = 1)

/-- What the dispatcher does with a frame that it does not keep, whichever row takes it. A duplicate of a LIVE sender
ends at the peer table: its lane age is 0, the duplicate is counted, and nothing else changes. An accepted frame that
is addressed neither to the own station nor, as broadcast, to the own group or group 15, ends there too, with step 2
done: the sender's entry, its counters, its return event, and the beacon fields and election of a BEACON. (The premise
says that no silence event of the sender waits, log 9.) -/
def Obligations.DiscardedFrameRecorded : Prop :=
  ∀ (c : Instr) (takes : RxFrame → Bool) (s : State) (f : RxFrame) (rest : List RxFrame) (e : PeerEntry) (v : Verdict),
    s.Canonical → (∀ n, s.counter n ≤ Config.counterTop) →
    rowTakes c = some takes → s.readyFor f rest → takes f = true → f.sender ≠ s.control.config.station →
    (s.peer f.sender).silenceDue = false →
    e = (match f.lane with
      | .a => { s.peer f.sender with ageA := 0 }
      | .b => { s.peer f.sender with ageB := 0 }) →
    v = e.judge f.seq f.restart →
    (v.accepted = false → ∃ t, exec c s = .next t ∧
      t = { s.withRunning t with frameQueue := rest, peers := t.peers } ∧
      t.peer f.sender = e ∧ (∀ p, p ≠ f.sender → t.peer p = s.peer p) ∧ s.risesTo t [(32, 1)]) ∧
    (v.accepted = true →
      (f.dest ≠ 63 → f.dest ≠ s.control.config.station) →
      (f.dest = 63 → f.group ≠ s.control.config.group ∧ f.group ≠ 15) →
      ∃ t, exec c s = .next t ∧ s.Accepted t f rest v)

/-- An accepted frame that is addressed to the own station, or as broadcast to the own group or group 15, reaches step
4 with step 2 done. What the rows PRESENCE, UNUSABLE_FRAME, QUOTE, PAINT_BASE and PAINT_TOP do with it there: an empty
PRESENCE is finished; a wrong one, a frame of an unknown kind or of kind REPLY, and a QUOTE or PAINT frame whose payload
has not the layout of 11.2 are counted; a QUOTE's items are applied in order and the paint unit takes work after the
last (log 16); a PAINT frame's run is presented and the dispatcher waits with the frame. (Which row takes a frame is
log 12; that no silence event of the sender waits is log 9.) -/
def Obligations.FramesHandedOn : Prop :=
  (∀ (s : State) (f : RxFrame) (rest : List RxFrame) (e : PeerEntry) (v : Verdict),
    s.Canonical → (∀ n, s.counter n ≤ Config.counterTop) → s.readyFor f rest →
    f.sender ≠ s.control.config.station → (s.peer f.sender).silenceDue = false →
    e = (match f.lane with
      | .a => { s.peer f.sender with ageA := 0 }
      | .b => { s.peer f.sender with ageB := 0 }) →
    v = e.judge f.seq f.restart → v.accepted = true →
    (f.dest ≠ 63 ∧ f.dest = s.control.config.station ∨
      f.dest = 63 ∧ (f.group = s.control.config.group ∨ f.group = 15)) →
    ∃ u, s.reaches f u ∧ s.Accepted u f rest v) ∧
  (∀ (s u : State) (f : RxFrame), s.reaches f u →
    (f.kind = kindPresence → f.payload = [] → exec .presence s = .next u) ∧
    (f.kind = kindPresence → f.payload ≠ [] → exec .presence s = .next (u.bump 36 1)) ∧
    (f.kind = 0 ∨ f.kind = kindReply ∨ 10 ≤ f.kind → exec .unusableFrame s = .next (u.bump 36 1)) ∧
    (f.kind = kindQuote → parseQuote f.payload = none → exec .quote s = .next (u.bump 36 1)) ∧
    (∀ instrument items, f.kind = kindQuote → parseQuote f.payload = some (instrument, items) →
      exec .quote s = .next
        (items.foldl (fun v it => v.applyItem f.sender instrument it) u).paintTake) ∧
    (∀ run, f.kind = kindPaint → parsePaint f.payload = some (false, run) →
      exec .paintBase s = .next { u with
        text := some (.base run), hand := .paint f
        port := { u.port with holder := some (u.port.holder.getD .text) } }) ∧
    (∀ run, f.kind = kindPaint → parsePaint f.payload = some (true, run) →
      exec .paintTop s = .next { u with
        text := some (.top run), hand := .paint f
        port := { u.port with holder := some (u.port.holder.getD .text) } }) ∧
    ∀ c takes, c = Instr.paintBase ∨ c = .paintTop → rowTakes c = some takes → takes f = true →
      parsePaint f.payload = none → exec c s = .next (u.bump 36 1)) ∧
  (∀ (payload : List Byte) (instrument : Nat) (items : List Item),
    parseQuote payload = some (instrument, items) ↔
      instrument ≤ 4095 ∧ 1 ≤ items.length ∧ items.length ≤ 8 ∧ (∀ it ∈ items, it.Coded) ∧
      payload = bytes16 (BitVec.ofNat 16 instrument) ++ [byteOf items.length] ++ items.flatMap Item.bytes) ∧
  ∀ (payload : List Byte) (top : Bool) (run : Run),
    parsePaint payload = some (top, run) ↔
      run.row < 256 ∧ run.col < 256 ∧ (top = false → run.row ≤ 47 ∧ run.col ≤ 127) ∧ run.glyphs ≠ [] ∧
      payload = [if top then 1 else 0, byteOf run.row, byteOf run.col, run.fg ++ run.bg, attrsByte run.attrs] ++
        run.glyphs

/-! ## Field table -/

/-- One QUOTE item: every BOUND slot of its key and source is a match; a match is rejected, and left as it was, when
its kind is TEXT and the item is numeric, when its kind is another and the item is text, or when a numeric item has a
scale above 9; the others hold the item's value and source as pending value, with the stamp of the value replaced, or
else a new stamp, no two the same. The four item counters count matches, conflations, rejections and an item without a
match. -/
def Obligations.ItemMatchesAndConflates : Prop :=
  ∀ (s : State) (sender instrument : Nat) (it : Item) (matched taken kept : List Nat),
    (∀ n, s.counter n ≤ Config.counterTop) →
    matched = (List.range 256).filter (fun n =>
      (s.slot n).bound && decide ((s.slot n).key.instrument = instrument) &&
        decide ((s.slot n).key.field = it.field) &&
        (decide ((s.slot n).key.source = sender) || decide ((s.slot n).key.source = 63))) →
    taken = matched.filter (fun n => match it.value with
      | .text _ => decide ((s.slot n).format.kind = .text)
      | .numeric scale _ => decide ((s.slot n).format.kind ≠ .text) && decide (scale ≤ 9)) →
    kept = taken.filter (fun n => (s.slot n).pending.isSome) →
    ∃ t, t = s.applyItem sender instrument it ∧
      t = { s.withRunning t with fields := t.fields, freeCount := t.freeCount } ∧
      (matched = [] → s.risesTo t [(38, 1)]) ∧
      (matched ≠ [] → s.risesTo t
        [(37, taken.length), (39, kept.length), (43, matched.length - taken.length)]) ∧
      (∀ n, n ∉ taken → t.slot n = s.slot n) ∧
      (∃ stamp : Nat → BitVec 32,
        (∀ n ∈ taken,
          t.slot n = { s.slot n with
            pending := some { value := it.value, source := sender, stamp := stamp n } } ∧
          (∀ old, (s.slot n).pending = some old → stamp n = old.stamp) ∧
          ((s.slot n).pending = none → ∃ k, k < taken.length - kept.length ∧
            stamp n = s.fields.stamp + BitVec.ofNat 32 k)) ∧
        ∀ n ∈ taken, ∀ m ∈ taken, (s.slot n).pending = none → (s.slot m).pending = none →
          stamp n = stamp m → n = m) ∧
      t.fields.stamp = s.fields.stamp + BitVec.ofNat 32 (taken.length - kept.length)

/-- A well-formed LAYOUT frame that reaches step 4 is taken by the row of its first operation and carried out from
there; a frame whose payload has not the layout of 11.2 changes nothing and is counted. Each further operation is
taken by the row of that operation. When the last operation is complete, the REPLY carries the code of the first
refusal, or DONE, and one result for each operation, and the dispatcher is finished with the frame. (Which row takes a
frame is log 12.) -/
def Obligations.LayoutFrameAnswered : Prop :=
  (∀ (s u : State) (f : RxFrame) (op : LayoutOp) (ops : List LayoutOp), s.reaches f u →
    f.kind = kindLayout → parseLayout f.payload = some (op :: ops) →
    ∀ c, c = (match op with
      | .bind _ => Instr.bind
      | .unbind _ => Instr.unbind
      | .level _ _ => Instr.level) →
      exec c s =
        .next (u.layoutTake { sender := f.sender, seq := f.seq, remaining := op :: ops, results := [] })) ∧
  (∀ (s u : State) (f : RxFrame) (c : Instr) (takes : RxFrame → Bool), s.reaches f u →
    c = .bind ∨ c = .unbind ∨ c = .level → rowTakes c = some takes → takes f = true →
    parseLayout f.payload = none → exec c s = .next (u.bump 36 1)) ∧
  (∀ (payload : List Byte) (ops : List LayoutOp), parseLayout payload = some ops ↔
    1 ≤ ops.length ∧ ops.length ≤ 4 ∧ (∀ op ∈ ops, op.Coded) ∧
    payload = byteOf ops.length :: ops.flatMap LayoutOp.bytes) ∧
  (∀ (s : State) (job : LayoutJob) (op : LayoutOp) (ops : List LayoutOp), s.control.mode = .running →
    job.remaining = op :: ops → ∀ c, c = (match op with
      | .bind _ => Instr.bind
      | .unbind _ => Instr.unbind
      | .level _ _ => Instr.level) →
      exec c { s with hand := .layout job } = .next (s.layoutTake job)) ∧
  (∀ (s : State) (job : LayoutJob), job.remaining = [] →
    (∀ r ∈ job.results, r.code = .done) →
    s.layoutAdvance job = ({ s with hand := .idle } : State).queueReply job.sender kindLayout job.seq .done
      (byteOf job.results.length ::
        job.results.flatMap (fun r => [byteOf r.slot, byteOf r.code.code, r.generation]))) ∧
  (∀ (s : State) (job : LayoutJob) (before after : List OpResult) (r : OpResult), job.remaining = [] →
    job.results = before ++ r :: after → (∀ x ∈ before, x.code = .done) → r.code ≠ .done →
    s.layoutAdvance job = ({ s with hand := .idle } : State).queueReply job.sender kindLayout job.seq r.code
      (byteOf job.results.length ::
        job.results.flatMap (fun r => [byteOf r.slot, byteOf r.code.code, r.generation])))

/-- A BIND that passes its tests: the slot is BOUND with a new generation and nothing shown or pending, the owner
map marks its cells, and the fill of spaces is presented while the dispatcher waits. A BIND that fails a test
changes nothing but the results. The tests are taken in the order of R42's table, and the kind and the colour rule are
those of the operation's codes. -/
def Obligations.BindCarriedOut : Prop :=
  ∀ (s : State) (job : LayoutJob) (op : BindOp) (more : List LayoutOp) (good : FormatKind → ColourRule → Prop),
    s.control.mode = .running → s.hand = .layout job → job.remaining = .bind op :: more →
    (∀ kind rule, good kind rule ↔
      (op.kindCode, kind) ∈ [(0, FormatKind.decimal), (1, .fraction), (2, .size), (3, .change), (4, .text)] ∧
      (op.ruleCode, rule) ∈ [(0, ColourRule.plain), (1, .tick), (2, .sign)] ∧
      op.source ≤ 63 ∧ op.instrument ≤ 4095 ∧ op.field ≤ 31 ∧ op.row ≤ 47 ∧ op.col ≤ 127 ∧
      1 ≤ op.width ∧ op.width ≤ 16 ∧ op.col + op.width ≤ 128 ∧ op.priority ≤ 7 ∧ op.spare = 0 ∧
      (∀ i, 3 ≤ i → op.attrs.getLsbD i = false) ∧
      (kind = .decimal ∨ kind = .change → op.places ≤ 6 ∧ op.expo = 0 ∧ op.half = false) ∧
      (kind = .fraction →
        1 ≤ op.expo ∧ op.expo ≤ 8 ∧ (op.half = true → op.expo ≤ 7) ∧ op.places = 0) ∧
      (kind = .size → op.places = 0 ∧ op.expo = 0 ∧ op.half = false) ∧
      (kind = .text → op.places = 0 ∧ op.expo = 0 ∧ op.half = false ∧ op.group = false)) →
    (∀ kind rule, good kind rule → ¬(kind = .text ∧ rule ≠ .plain) →
      s.control.config.crawlRow ≠ some op.row →
      (∀ i ∈ op.place.cells, ∀ m, s.ownerOf i = .slot m → m = op.slot) → (s.slot op.slot).bound = false →
      ∃ t, exec .bind s = .next t ∧
        t = { s with
          fields := { s.fields with slots := t.fields.slots }
          store := { s.store with owner := t.store.owner }
          text := some (.fill op.place { fg := op.fg, bg := op.bg, attrs := attrsOfByte op.attrs })
          port := { s.port with holder := some (s.port.holder.getD .text) }
          hand := .layoutFill { job with
            remaining := more
            results := job.results ++ [
              { slot := op.slot, code := .done, generation := (s.slot op.slot).generation + 1 }] } } ∧
        t.slot op.slot =
          { bound := true, generation := (s.slot op.slot).generation + 1
            key := { source := op.source, instrument := op.instrument, field := op.field }
            place := op.place
            format := { kind := kind, places := op.places, expo := op.expo, half := op.half,
                        group := op.group }
            rule := rule, priority := op.priority
            base := { fg := op.fg, bg := op.bg, attrs := attrsOfByte op.attrs }
            shown := none, direction := .none
            highlight := { (s.slot op.slot).highlight with stage := .none, remaining := 0 }
            stale := false, overflow := false, restyle := false, pending := none } ∧
        (∀ n, n ≠ op.slot → t.slot n = s.slot n) ∧
        ∀ i, t.ownerOf i = if i ∈ op.place.cells then .slot op.slot else s.ownerOf i) ∧
    ((∀ kind rule, ¬ good kind rule) →
      exec .bind s = .next (s.layoutDone job more op.slot .range (s.slot op.slot).generation)) ∧
    ∀ kind rule, good kind rule →
      (kind = .text → rule ≠ .plain →
        exec .bind s = .next (s.layoutDone job more op.slot .rule (s.slot op.slot).generation)) ∧
      (¬(kind = .text ∧ rule ≠ .plain) →
        (s.control.config.crawlRow = some op.row →
          exec .bind s = .next (s.layoutDone job more op.slot .crawlRow (s.slot op.slot).generation)) ∧
        (s.control.config.crawlRow ≠ some op.row →
          (∀ i ∈ op.place.cells, ∀ m, s.ownerOf i = .slot m → m ≠ op.slot →
            exec .bind s = .next (s.layoutDone job more op.slot .overlap (s.slot op.slot).generation)) ∧
          ((∀ i ∈ op.place.cells, ∀ m, s.ownerOf i = .slot m → m = op.slot) →
            (s.slot op.slot).bound = true →
            exec .bind s =
              .next (s.layoutDone job more op.slot .slotBusy (s.slot op.slot).generation))))

/-- UNBIND frees a BOUND slot: its cells become NONE, its generation and what its binding set are kept, the rest
is cleared. LEVEL sets a BOUND slot's priority and the paint unit may take work. A FREE slot is refused with
SLOT_FREE and a priority above 7 with RANGE, and nothing else changes. -/
def Obligations.UnbindAndLevel : Prop :=
  ∀ (s : State) (job : LayoutJob) (n prio : Nat) (more : List LayoutOp),
    s.control.mode = .running → s.hand = .layout job →
    (job.remaining = .unbind n :: more → (s.slot n).bound = true → ∃ u : State,
      exec .unbind s = .next (u.layoutDone job more n .done (s.slot n).generation) ∧
      u = { s with
        fields := { s.fields with slots := u.fields.slots }
        store := { s.store with owner := u.store.owner } } ∧
      u.slot n = { s.slot n with
        bound := false, shown := none, direction := .none
        highlight := { (s.slot n).highlight with stage := .none, remaining := 0 }
        stale := false, overflow := false, restyle := false, pending := none } ∧
      (∀ m, m ≠ n → u.slot m = s.slot m) ∧
      ∀ i, u.ownerOf i = if i ∈ (s.slot n).place.cells then .none else s.ownerOf i) ∧
    (job.remaining = .unbind n :: more → (s.slot n).bound = false →
      exec .unbind s = .next (s.layoutDone job more n .slotFree (s.slot n).generation)) ∧
    (job.remaining = .level n prio :: more → prio ≤ 7 → (s.slot n).bound = true →
      exec .level s = .next (((s.setSlot n { s.slot n with priority := prio }).paintTake).layoutDone job more n
        .done (s.slot n).generation)) ∧
    (job.remaining = .level n prio :: more → 7 < prio →
      exec .level s = .next (s.layoutDone job more n .range (s.slot n).generation)) ∧
    (job.remaining = .level n prio :: more → prio ≤ 7 → (s.slot n).bound = false →
      exec .level s = .next (s.layoutDone job more n .slotFree (s.slot n).generation))

/-! ## Text writer -/

/-- A granted BIND fill writes spaces in the slot's base colours, inverse clear, to the base layer of its cells and
to nothing else. Then the port is granted on, and the frame's next operation is taken; with no more operations the
frame is answered and finished. -/
def Obligations.BindFillApplied : Prop :=
  ∀ (s : State) (place : Placement) (base : Base) (job : LayoutJob), s.OverlayLaw → s.control.mode = .running →
    s.port.holder = some .text → s.text = some (.fill place base) → s.hand = .layoutFill job →
    ∃ u v t : State, exec .bindFill s = .next t ∧
      u = { s.withScan u with
        store := { s.store with cells := u.store.cells }
        overlay := { s.overlay with save := u.overlay.save }
        text := none } ∧
      s.ScansOn u ∧
      s.paintsBase u place.cells (fun _ =>
        { glyph := 32, fg := base.fg, bg := base.bg
          attrs := { base.attrs with inverse := false } }) ∧
      v = u.portPassed (grantOrder s.overlay.request.isSome s.crawl.request s.paint.isSome false) ∧
      (job.remaining = [] → t = v.layoutAdvance job) ∧
      (job.remaining ≠ [] → t = v.layoutTake job)

/-- A granted BASE run writes each glyph's cell that no one owns, skips and counts each owned cell, and discards
the glyphs beyond column 127; then the PAINT frame is finished and the port is granted on. -/
def Obligations.BaseRunApplied : Prop :=
  ∀ (s : State) (r : Run) (f : RxFrame), s.OverlayLaw → (∀ n, s.counter n ≤ Config.counterTop) →
    s.control.mode = .running → s.port.holder = some .text → s.text = some (.base r) → s.hand = .paint f →
    ∃ u : State, exec .baseRun s = .next
        (u.portPassed (grantOrder s.overlay.request.isSome s.crawl.request s.paint.isSome false)) ∧
      u = { (s.withRunning u).withScan u with
        store := { s.store with cells := u.store.cells }
        overlay := { s.overlay with save := u.overlay.save }
        text := none, hand := .idle } ∧
      s.ScansOn u ∧
      (∀ j g, r.glyphs[j]? = some g → r.col + j < 128 → s.ownerOf (cellKey r.row (r.col + j)) = .none →
        u.baseCell (cellKey r.row (r.col + j)) =
          { glyph := frameGlyph g, fg := r.fg, bg := r.bg, attrs := r.attrs }) ∧
      (∀ i, (∀ j, j < r.glyphs.length → r.col + j < 128 → i = cellKey r.row (r.col + j) →
          s.ownerOf i ≠ .none) → u.baseCell i = s.baseCell i) ∧
      (∀ i, s.coverOf i ≠ 0 → u.cell i = s.cell i) ∧
      (∀ k, (∀ j, j < r.glyphs.length → r.col + j < 128 →
          s.saveKey (cellKey r.row (r.col + j)) ≠ some k) → u.saved k = s.saved k) ∧
      s.risesTo u [(46, ((List.range r.glyphs.length).filter (fun j =>
        decide (r.col + j < 128) &&
          decide (s.ownerOf (cellKey r.row (r.col + j)) ≠ .none))).length)]

/-- A granted TOP run goes to the interior of the level that is top at the grant, past its border and up to its
last column, and to the screen alone. With no level open, or outside the interior, it writes nothing and is counted
unusable. Then the PAINT frame is finished and the port is granted on. -/
def Obligations.TopRunApplied : Prop :=
  ∀ (s : State) (r : Run) (f : RxFrame) (next : Option Writer), s.control.mode = .running →
    s.port.holder = some .text → s.text = some (.top r) → s.hand = .paint f →
    next = grantOrder s.overlay.request.isSome s.crawl.request s.paint.isSome false →
    ∃ u : State, exec .topRun s = .next (u.portPassed next) ∧ s.ScansOn u ∧
      (s.overlay.levels = [] → u = { (s.bump 36 1).withScan u with text := none, hand := .idle }) ∧
      (∀ below lv edge, s.overlay.levels = below ++ [lv] → edge = (if lv.border then 1 else 0) →
        (r.row < lv.height - 2 * edge → r.col < lv.width - 2 * edge →
          u = { s.withScan u with
            store := { s.store with cells := u.store.cells }
            text := none, hand := .idle } ∧
          (∀ j g, r.glyphs[j]? = some g → r.col + j < lv.width - 2 * edge →
            u.cell (cellKey (lv.top + edge + r.row) (lv.left + edge + r.col + j)) =
              { glyph := frameGlyph g, fg := r.fg, bg := r.bg, attrs := r.attrs }) ∧
          ∀ i, (∀ j, j < r.glyphs.length → r.col + j < lv.width - 2 * edge →
              i ≠ cellKey (lv.top + edge + r.row) (lv.left + edge + r.col + j)) →
            u.cell i = s.cell i) ∧
        (lv.height - 2 * edge ≤ r.row ∨ lv.width - 2 * edge ≤ r.col →
          u = { (s.bump 36 1).withScan u with text := none, hand := .idle }))

/-! ## Overlay unit -/

/-- An OPEN is tested in the order of R115's table, when it is taken from the queue and when it has waited for the
overlay unit. One that fails a test is answered at once with that test's code and changes nothing else; one that passes
becomes the overlay unit's request, and the dispatcher waits. -/
def Obligations.OpenTested : Prop :=
  ∀ (s u : State) (f : RxFrame) (op : OpenOp), s.judges f u → f.kind = kindOverlay →
    parseOverlay f.payload = some (.openLevel op) → u.overlay.request = none →
    ∀ refused : ResultCode → Prop,
      (∀ r, refused r ↔ exec .overlayOpen s = .next (u.queueReply f.sender kindOverlay f.seq r
        ([1, byteOf u.overlay.levels.length, byteOf u.overlay.levels.length] ++
          bytes16 (BitVec.ofNat 16 u.overlay.used)))) →
      (8 ≤ u.overlay.levels.length → refused .stackFull) ∧
      (u.overlay.levels.length < 8 →
        ∀ good : Prop, (good ↔
          op.top ≤ 47 ∧ op.left ≤ 127 ∧ 1 ≤ op.height ∧ op.height ≤ 46 ∧ 1 ≤ op.width ∧ op.width ≤ 128 ∧
            op.top + op.height ≤ 48 ∧ op.left + op.width ≤ 128 ∧
            (op.flags = 0 ∨ op.flags = 1 ∧ 3 ≤ op.height ∧ 3 ≤ op.width)) →
        (¬ good → refused .range) ∧
        (good → (∃ row, u.control.config.crawlRow = some row ∧ op.top ≤ row ∧ row < op.top + op.height) →
          refused .crawlRow) ∧
        (good → (∀ row, u.control.config.crawlRow = some row → row < op.top ∨ op.top + op.height ≤ row) →
          (2048 < u.overlay.used + op.height * op.width → refused .saveFull) ∧
          (u.overlay.used + op.height * op.width ≤ 2048 →
            exec .overlayOpen s = .next { u with
              overlay := { u.overlay with request := some (.openLevel op f.sender) }
              hand := .overlayUnit f.sender f.seq
              port := { u.port with holder := some (u.port.holder.getD .overlay) } })))

/-- CLOSE and CLOSE_ALL at depth 0 are answered at once, with STACK_EMPTY and with DONE; at any other depth they
become the overlay unit's request. An OVERLAY frame that finds a request in hand waits in the dispatcher's hand, and is
judged in the same way once there is none; one whose payload has not the layout of 11.2 is counted. (Which row takes a
frame is log 12.) -/
def Obligations.CloseTested : Prop :=
  (∀ (s u : State) (f : RxFrame), s.judges f u → f.kind = kindOverlay → u.overlay.request = none →
    (parseOverlay f.payload = some .close →
      (u.overlay.levels = [] → exec .overlayClose s = .next (u.queueReply f.sender kindOverlay f.seq
        .stackEmpty ([2, 0, 0] ++ bytes16 (BitVec.ofNat 16 u.overlay.used)))) ∧
      (u.overlay.levels ≠ [] → exec .overlayClose s = .next { u with
        overlay := { u.overlay with request := some .close }
        hand := .overlayUnit f.sender f.seq
        port := { u.port with holder := some (u.port.holder.getD .overlay) } })) ∧
    (parseOverlay f.payload = some .closeAll →
      (u.overlay.levels = [] → exec .overlayCloseAll s = .next (u.queueReply f.sender kindOverlay f.seq
        .done ([3, 0, 0] ++ bytes16 (BitVec.ofNat 16 u.overlay.used)))) ∧
      (u.overlay.levels ≠ [] → exec .overlayCloseAll s = .next { u with
        overlay := { u.overlay with request := some .closeAll }
        hand := .overlayUnit f.sender f.seq
        port := { u.port with holder := some (u.port.holder.getD .overlay) } })) ∧
    ∀ c takes, c = Instr.overlayOpen ∨ c = .overlayClose ∨ c = .overlayCloseAll →
      rowTakes c = some takes → takes f = true →
      parseOverlay f.payload = none → exec c s = .next (u.bump 36 1)) ∧
  (∀ (s u : State) (f : RxFrame) c takes, s.reaches f u → u.overlay.request ≠ none →
    c = Instr.overlayOpen ∨ c = .overlayClose ∨ c = .overlayCloseAll →
    rowTakes c = some takes → takes f = true → exec c s = .next { u with hand := .overlayWait f }) ∧
  ∀ (payload : List Byte) (op : OverlayOp), parseOverlay payload = some op ↔ op.Coded ∧ payload = op.bytes

/-- A granted OPEN: the new top level, its rectangle's cells saved row-major, covered where no level covered them,
and drawn with the fill and the border; every cell outside is as it was. Then the port is granted on, the frame is
answered DONE with the new level, and the orphan check is made. -/
def Obligations.OpenApplied : Prop :=
  ∀ (s : State) (op : OpenOp) (requester : Nat), s.OverlayLaw →
    s.port.holder = some .overlay → s.overlay.request = some (.openLevel op requester) →
    ∃ t, exec .openUnit s = .next t ∧ s.ScansOn t ∧
      t.overlay.levels = s.overlay.levels ++ [
        { top := op.top, left := op.left, height := op.height, width := op.width
          border := decide (op.flags = 1), fillFg := op.fg, fillBg := op.bg, requester := requester
          offset := s.overlay.used, length := op.height * op.width }] ∧
      t.overlay.used = s.overlay.used + op.height * op.width ∧
      t.store.owner = s.store.owner ∧ t.fields.stamp = s.fields.stamp ∧
      (∀ y x i, y < op.height → x < op.width → i = cellKey (op.top + y) (op.left + x) →
        t.saved (s.overlay.used + y * op.width + x) = s.cell i ∧
        t.coverOf i = (if s.coverOf i = 0 then s.overlay.levels.length + 1 else s.coverOf i) ∧
        (t.cell i).fg = op.fg ∧ (t.cell i).bg = op.bg ∧ (t.cell i).attrs = attrsClear ∧
        (op.flags = 0 → (t.cell i).glyph = 32) ∧
        (op.flags = 1 →
          (y = 0 → x = 0 → (t.cell i).glyph = 256) ∧
          (y = 0 → x = op.width - 1 → (t.cell i).glyph = 257) ∧
          (y = op.height - 1 → x = 0 → (t.cell i).glyph = 258) ∧
          (y = op.height - 1 → x = op.width - 1 → (t.cell i).glyph = 259) ∧
          (y = 0 ∨ y = op.height - 1 → 0 < x → x < op.width - 1 → (t.cell i).glyph = 260) ∧
          (x = 0 ∨ x = op.width - 1 → 0 < y → y < op.height - 1 → (t.cell i).glyph = 261) ∧
          (0 < y → y < op.height - 1 → 0 < x → x < op.width - 1 → (t.cell i).glyph = 32))) ∧
      (∀ i, (∀ y x, y < op.height → x < op.width → i ≠ cellKey (op.top + y) (op.left + x)) →
        t.cell i = s.cell i ∧ t.coverOf i = s.coverOf i) ∧
      (∀ j, j < s.overlay.used → t.saved j = s.saved j) ∧
      ∀ sender seq, s.control.mode = .running → s.hand = .overlayUnit sender seq → ∃ u : State,
        u = { s.withScan u with
          store := { s.store with cells := t.store.cells, cover := t.store.cover }
          overlay := { t.overlay with request := none }
          hand := .idle } ∧
        u.OverlayAnswered t sender seq 1 (s.overlay.levels.length + 1)

/-- A granted CLOSE writes the top level's save records back to its rectangle, takes its cover away and releases
its save space; every other cell, cover level and save record is as it was. Then the port is granted on, the frame is
answered DONE with the level closed, and the orphan check is made. -/
def Obligations.CloseApplied : Prop :=
  ∀ (s : State) (below : List Level) (lv : Level), s.Canonical → s.OverlayLaw →
    s.overlay.levels = below ++ [lv] → s.port.holder = some .overlay → s.overlay.request = some .close →
    ∃ t, exec .closeUnit s = .next t ∧ s.ScansOn t ∧
      t.overlay.levels = below ∧ t.overlay.used + lv.height * lv.width = s.overlay.used ∧
      t.store.owner = s.store.owner ∧ t.overlay.save = s.overlay.save ∧
      (∀ y x, y < lv.height → x < lv.width →
        t.cell (cellKey (lv.top + y) (lv.left + x)) = s.saved (lv.offset + y * lv.width + x)) ∧
      (∀ i, ¬ lv.contains i → t.cell i = s.cell i) ∧
      (∀ i, t.coverOf i = if s.coverOf i = below.length + 1 then 0 else s.coverOf i) ∧
      ∀ sender seq, s.control.mode = .running → s.hand = .overlayUnit sender seq → ∃ u : State,
        u = { s.withScan u with
          store := { s.store with cells := t.store.cells, cover := t.store.cover }
          overlay := { t.overlay with request := none }
          hand := .idle } ∧
        u.OverlayAnswered t sender seq 2 s.overlay.levels.length

/-- A granted CLOSE_ALL, and the granted unwinding of a warm reset, close every level in one unit: the stack is
empty, no cell is covered, and the screen shows the base layer with every write made beneath any level. A cell that the
scan engine reads meanwhile is shown as it stood before, as it is left, or as the close of one level restored it (which
is free, log 15). A CLOSE_ALL is then answered DONE with the depth before it and followed by the orphan check; the
unwinding is not answered, and with nothing else waiting the painter is RUNNING (log 18). -/
def Obligations.StackUnwound : Prop :=
  ∀ (s : State) (c : Instr), s.Canonical → s.OverlayLaw → s.port.holder = some .overlay →
    (c = .closeAllUnit ∧ s.overlay.request = some .closeAll) ∨
      (c = .unwinding ∧ s.overlay.request = some .unwinding) →
    ∃ t, exec c s = .next t ∧ s.ScansOn t ∧
      t.overlay.levels = [] ∧ t.overlay.used = 0 ∧ t.store.owner = s.store.owner ∧
      t.overlay.save = s.overlay.save ∧ (∀ i, t.coverOf i = 0 ∧ t.cell i = s.baseCell i) ∧
      (∀ sender seq, c = .closeAllUnit → s.control.mode = .running → s.hand = .overlayUnit sender seq →
        ∃ u : State,
          u = { s.withScan u with
            store := { s.store with cells := t.store.cells, cover := t.store.cover }
            overlay := { t.overlay with request := none }
            hand := .idle } ∧
          u.OverlayAnswered t sender seq 3 s.overlay.levels.length) ∧
      (c = .unwinding → t.tx = s.tx ∧ t.hand = s.hand ∧
        (s.control.mode = .unwinding → s.crawl.request = false → s.paint = none → s.text = none →
          t.control.mode = .running ∧ t.overlay.request = none))

/-- An orphan close counts, at its grant, the levels from the top down whose requesters are SILENT, and closes that
many when it is applied: the cells of each are written back from its save records, from the top level down, their cover
is taken away and their save space released; every other cell, cover level and save record is as it was. Then the port
is granted on and the orphan check is made; the close is not answered and counts nothing. A cell that the scan engine
reads meanwhile is shown as it stood before, as it is left, or as the close of one level restored it (which is free,
log 15). (That the number is decided at the grant is log 7.) -/
def Obligations.OrphansClosed : Prop :=
  (∀ (s : State) (kept closed : List Level), s.overlay.request = some .orphan →
    s.overlay.levels = kept ++ closed →
    (∀ lv ∈ closed, (s.peer lv.requester).state = .silent) →
    (∀ lv, kept.getLast? = some lv → (s.peer lv.requester).state ≠ .silent) →
    s.grant .overlay = { s with port := { holder := some .overlay, decided := .closes closed.length } }) ∧
  (∀ s : State, s.overlay.request ≠ some .orphan →
    s.grant .overlay = { s with port := { s.port with holder := some .overlay } }) ∧
  ∀ (s : State) (kept closed : List Level), s.Canonical → s.OverlayLaw → s.control.mode = .running →
    s.port = { holder := some .overlay, decided := .closes closed.length } → s.overlay.request = some .orphan →
    s.overlay.levels = kept ++ closed →
    ∃ u t : State, exec .orphanClose s = .next t ∧ s.ScansOn u ∧
      u = { s.withScan u with
        overlay := { s.overlay with levels := kept, used := u.overlay.used, request := none }
        store := { s.store with cells := u.store.cells, cover := u.store.cover } } ∧
      u.overlay.used + savedLength closed = s.overlay.used ∧
      (∀ below lv above i, closed = below ++ lv :: above → lv.contains i → (∀ l ∈ below, ¬ l.contains i) →
        u.cell i = s.saved (lv.offset + (i / 128 - lv.top) * lv.width + (i % 128 - lv.left))) ∧
      (∀ i, (∀ lv ∈ closed, ¬ lv.contains i) → u.cell i = s.cell i) ∧
      (∀ i, u.coverOf i = if kept.length < s.coverOf i then 0 else s.coverOf i) ∧
      (u.portPassed (grantOrder false s.crawl.request s.paint.isSome s.text.isSome)).OrphansChecked t

/-! ## Group timer and crawl engine -/

/-- A CRAWL frame's glyphs are placed in order by their distance from P: within 1,024 stored with the frame's
colours, else dropped and counted; a stored glyph in this monitor's slice needs a repaint of the crawl row. With no
crawl row, and with a payload that has not the layout of 11.2, the frame is counted. (The premise on the crawl step is
log 9.) -/
def Obligations.CrawlPlaced : Prop :=
  (∀ (s u : State) (f : RxFrame) (c : CrawlText), s.reaches f u → f.kind = kindCrawl →
    parseCrawl f.payload = some c → c.glyphs.length ≤ 1024 → u.crawl.tickDue = false →
    (∀ n, u.counter n ≤ Config.counterTop) →
    (u.control.config.crawlRow = none → exec .crawl s = .next (u.bump 36 1)) ∧
    (∀ row, u.control.config.crawlRow = some row → ∃ t, exec .crawl s = .next t ∧
      t = { u.withRunning t with
        crawl := { u.crawl with
          tape := t.crawl.tape, request := t.crawl.request, repeatMark := t.crawl.repeatMark }
        port := t.port } ∧
      (∀ j g x, c.glyphs[j]? = some g → x = c.first + BitVec.ofNat 16 j →
        (x - u.crawl.p).toNat < 1024 → t.tapeAt (x.toNat % 1024) =
          { valid := true, index := x, glyph := g, fg := c.fg, bg := c.bg, attrs := c.attrs }) ∧
      (∀ k, (∀ j x, j < c.glyphs.length → x = c.first + BitVec.ofNat 16 j →
          (x - u.crawl.p).toNat < 1024 → x.toNat % 1024 ≠ k) → t.tapeAt k = u.tapeAt k) ∧
      u.risesTo t [(45, ((List.range c.glyphs.length).filter (fun j =>
        decide (1024 ≤ (c.first + BitVec.ofNat 16 j - u.crawl.p).toNat))).length)] ∧
      (∀ seen : Nat → Prop,
        (∀ a, seen a ↔ a < 1024 ∧ 128 * u.control.config.tilePosition ≤ a ∧
          a ≤ 128 * u.control.config.tilePosition + 127) →
        ((∃ j, j < c.glyphs.length ∧ seen (c.first + BitVec.ofNat 16 j - u.crawl.p).toNat) →
          u.control.mode = .running → t.crawl.request = true) ∧
        ((∀ j, j < c.glyphs.length → ¬ seen (c.first + BitVec.ofNat 16 j - u.crawl.p).toNat) →
          t.crawl = { u.crawl with tape := t.crawl.tape } ∧ t.port = u.port)))) ∧
  (∀ (s u : State) (f : RxFrame), s.reaches f u → f.kind = kindCrawl → parseCrawl f.payload = none →
    u.crawl.tickDue = false → exec .crawl s = .next (u.bump 36 1)) ∧
  ∀ (payload : List Byte) (c : CrawlText), parseCrawl payload = some c ↔
    c.glyphs ≠ [] ∧ payload = bytes16 c.first ++ [c.fg ++ c.bg, attrsByte c.attrs] ++ c.glyphs

/-- A BEACON that passed the address filter is adopted when its sender is the reference that the painter is
FOLLOWING: the phase count, with a correction counted when it differed, then P, with every tape entry 1,024 or more
from it made invalid. From any other sender it has no further effect, and one whose payload is not 4 bytes is
counted unusable. (The premises on the crawl step and the countdown are log 9.) -/
def Obligations.BeaconAdopted : Prop :=
  (∀ (s u : State) (f : RxFrame), s.reaches f u → f.kind = kindBeacon → u.Canonical →
    (parseBeacon f.payload = none → exec .beacon s = .next (u.bump 36 1)) ∧
    ∀ phase p, parseBeacon f.payload = some (phase, p) →
      (u.group.timing ≠ .following ∨ u.group.reference ≠ f.sender → exec .beacon s = .next u) ∧
      (u.group.timing = .following → u.group.reference = f.sender → u.crawl.tickDue = false →
        u.group.countdown ≠ 0 → ∃ t, exec .beacon s = .next t ∧
          t = { u with
            group := { u.group with phase := phase, corrections := t.group.corrections }
            crawl := { u.crawl with
              p := p, tape := t.crawl.tape, request := t.crawl.request, repeatMark := t.crawl.repeatMark }
            port := t.port } ∧
          (u.group.phase = phase → t.group.corrections = u.group.corrections) ∧
          (u.group.phase ≠ phase → t.group.corrections = min 65535 (u.group.corrections + 1)) ∧
          (u.crawl.p = p → t.crawl = u.crawl ∧ t.port = u.port) ∧
          (u.crawl.p ≠ p → ∀ k, t.tapeAt k =
            if (u.tapeAt k).valid = true ∧ 1024 ≤ ((u.tapeAt k).index - p).toNat
            then { u.tapeAt k with valid := false } else u.tapeAt k) ∧
          (u.crawl.p ≠ p → u.crawlEnabled = true → u.control.mode = .running → t.crawl.request = true))) ∧
  ∀ (payload : List Byte) (phase p : BitVec 16),
    parseBeacon payload = some (phase, p) ↔ payload = bytes16 phase ++ bytes16 p

/-- A crawl step that a phase tick called for makes the entry at P invalid, moves P on by one and needs a repaint of
the crawl row. A BEACON that is due replaces in place the payload of the first BEACON that waits on both lanes, or
takes a new place when the queue has one, or is skipped; none is queued while transmission is inhibited; the
countdown is set again in every case. (That tick and beacon are commands of their own is log 9.) -/
def Obligations.TickAnswered : Prop :=
  ∀ s : State, s.control.mode = .running →
    (s.crawl.tickDue = true → ∃ t, exec .crawlStep s = .next t ∧
      t = { s with
        crawl := { p := s.crawl.p + 1, tape := t.crawl.tape, request := t.crawl.request
                   repeatMark := t.crawl.repeatMark, tickDue := false }
        port := t.port } ∧
      (∀ k, t.tapeAt k = if k = s.crawl.p.toNat % 1024 then { s.tapeAt k with valid := false }
        else s.tapeAt k) ∧
      (s.crawlEnabled = true → t.crawl.request = true ∧
        (s.crawl.request = false → t.port.holder = some (s.port.holder.getD .crawl)) ∧
        (s.crawl.request = true → s.port.holder = some .crawl → t.crawl.repeatMark = true)) ∧
      (s.crawlEnabled = false ∨ s.crawl.request = true ∨ s.port.holder ≠ none → t.port = s.port)) ∧
    (s.group.countdown = 0 → s.crawl.tickDue = false → ∃ t, exec .beaconDue s = .next t ∧
      t = { s with
        group := { s.group with countdown := s.control.config.interval }
        tx := t.tx, portA := t.portA, portB := t.portB } ∧
      (s.inhibited = true → t.tx = s.tx ∧ t.portA = s.portA ∧ t.portB = s.portB) ∧
      (s.inhibited = false →
        (∀ before f after, s.tx.frames = before ++ f :: after →
          f.kind = .beacon ∧ f.sendA = .waiting ∧ f.sendB = .waiting →
          (∀ x ∈ before, ¬(x.kind = .beacon ∧ x.sendA = .waiting ∧ x.sendB = .waiting)) →
          t.portA = s.portA ∧ t.portB = s.portB ∧ t.tx = { s.tx with
            frames := before ++ { f with payload := bytes16 s.group.phase ++ bytes16 s.crawl.p } :: after }) ∧
        ((∀ x ∈ s.tx.frames, ¬(x.kind = .beacon ∧ x.sendA = .waiting ∧ x.sendB = .waiting)) →
          (s.tx.frames.length < 4 → t.tx =
            { frames := s.tx.frames ++ [
                { kind := .beacon, group := s.control.config.group, dest := 63, seq := s.tx.seq
                  restart := decide (s.tx.queued < 32)
                  payload := bytes16 s.group.phase ++ bytes16 s.crawl.p
                  sendA := .waiting, sendB := .waiting }]
              seq := s.tx.seq + 1, queued := min 32 (s.tx.queued + 1) }) ∧
          (4 ≤ s.tx.frames.length → t.tx = s.tx ∧ t.portA = s.portA ∧ t.portB = s.portB))))

/-- A repaint reads, at its grant, the 128 cells of the crawl row: the tape entry of each column's index in this
monitor's slice, or a space in the crawl roles; and it writes those cells when it is applied. With the repeat mark set
a further repaint is then presented behind the writers that were waiting. (That the cells are decided at the grant is
log 7.) -/
def Obligations.CrawlRowRepainted : Prop :=
  (∀ s : State, ∃ cells, s.grant .crawl = { s with port := { holder := some .crawl, decided := .row cells } } ∧
    cells.length = 128 ∧
    ∀ x index entry, x < 128 →
      index = s.crawl.p + BitVec.ofNat 16 (128 * s.control.config.tilePosition + x) →
      entry = s.tapeAt (index.toNat % 1024) →
      (entry.valid = true → entry.index = index → cells[x]? =
        some { glyph := frameGlyph entry.glyph, fg := entry.fg, bg := entry.bg, attrs := entry.attrs }) ∧
      (entry.valid = false ∨ entry.index ≠ index → cells[x]? =
        some { glyph := 32, fg := s.control.config.roles.crawlFg, bg := s.control.config.roles.crawlBg
               attrs := attrsClear })) ∧
  ∀ (s : State) (row : Nat) (cells : List Cell), s.control.mode = .running →
    s.control.config.crawlRow = some row → s.port = { holder := some .crawl, decided := .row cells } →
    cells.length = 128 →
    ∃ u v t : State, exec .crawlRepaint s = .next t ∧ s.ScansOn u ∧
      u = { s.withScan u with
        store := { s.store with cells := u.store.cells }
        crawl := { s.crawl with request := false, repeatMark := false } } ∧
      v = u.portPassed (grantOrder s.overlay.request.isSome false s.paint.isSome s.text.isSome) ∧
      (s.crawl.repeatMark = false → t = v) ∧
      (s.crawl.repeatMark = true →
        t = ({ v with crawl := { v.crawl with request := true } } : State).present .crawl) ∧
      (∀ x c, cells[x]? = some c → u.cell (cellKey row x) = c) ∧
      ∀ i, (∀ x, x < 128 → i ≠ cellKey row x) → u.cell i = s.cell i

/-- A lapse signal runs one election on the state as it stands: the lowest-numbered station of the candidate set is
the reference, LEADING when it is the own station and FOLLOWING when it is another; with no candidate the painter is
FREE. (That a lapse signal is a command of its own is log 9.) -/
def Obligations.ElectionNamesLowest : Prop :=
  ∀ (s : State) (p : Nat) (candidate : Nat → Prop), p < 63 → s.control.mode = .running →
    (s.peer p).lapseDue = true →
    (∀ q, candidate q ↔ q < 63 ∧
      ((s.peer q).painter = true ∧ (s.peer q).beaconGroup = s.control.config.group ∧
          (s.peer q).beaconAge < 3 * s.control.config.interval ∨
        q = s.control.config.station ∧ s.control.valid = true ∧ s.control.clock = .reference)) →
    ∃ t, exec (.beaconLapse p) s = .next t ∧
      t = { s with
        peers := t.peers
        group := { s.group with timing := t.group.timing, reference := t.group.reference } } ∧
      t.peer p = { s.peer p with lapseDue := false } ∧ (∀ q, q ≠ p → t.peer q = s.peer q) ∧
      ((∀ q, ¬ candidate q) → t.group.timing = .free ∧ t.group.reference = 63) ∧
      ∀ q, candidate q → (∀ r, r < q → ¬ candidate r) → t.group.reference = q ∧
        t.group.timing = if q = s.control.config.station then .leading else .following

/-! ## Paint unit -/

/-- While RUNNING and IDLE the paint unit takes the lowest slot offered for a restyle, else the pending value of the
highest priority, of those the smallest arrival stamp, of those the lowest slot; it holds one operation at a time, and
presents its write unit. A request at a free port is granted at once and at a held port waits, and until the unit that
holds the port ends no command changes what was decided at its grant. (That the grant decides and the unit's row ends it
is log 7; that LOADING_COMPLETE ends a unit that still holds the port is log 13.) -/
def Obligations.PaintUnitChooses : Prop :=
  (∀ (s : State) (offered : Nat → Pending → Prop), s.control.mode = .running →
    (∀ n p, offered n p ↔ n < 256 ∧ (s.slot n).bound = true ∧ 1 ≤ (s.slot n).priority ∧
      (s.slot n).pending = some p) →
    (s.paint ≠ none → s.paintTake = s) ∧
    (∀ n, s.paint = none → n < 256 → (s.slot n).bound = true → (s.slot n).restyle = true →
      (∀ m, m < n → (s.slot m).bound = true → (s.slot m).restyle = false) →
      s.paintTake = ({ s.setSlot n { s.slot n with restyle := false } with
        paint := some (.restyle n (s.slot n).generation) } : State).present .paint) ∧
    ((∀ n, n < 256 → (s.slot n).bound = true → (s.slot n).restyle = false) → s.paint = none →
      ((∀ n p, ¬ offered n p) → s.paintTake = s) ∧
      ∀ n p, offered n p →
        (∀ m q, offered m q → m ≠ n → (s.slot m).priority < (s.slot n).priority ∨
          (s.slot m).priority = (s.slot n).priority ∧
            (p.stamp.toNat < q.stamp.toNat ∨ p.stamp = q.stamp ∧ n < m)) →
        s.paintTake = ({ s.setSlot n { s.slot n with pending := none } with
          paint := some (.paint n (s.slot n).generation p.value p.source p.stamp) } : State).present .paint)) ∧
  (∀ (s : State) (w : Writer), (s.port.holder = none → s.present w = s.grant w) ∧
    (s.port.holder ≠ none → s.present w = s)) ∧
  ∀ (s t : State) (c : Instr), exec c s = .next t → s.port.holder ≠ none →
    c ∉ [.bindFill, .baseRun, .topRun, .openUnit, .closeUnit, .closeAllUnit, .orphanClose, .unwinding,
      .paintCompletion, .restyleCompletion, .crawlRepaint] → (∀ image, c ≠ .loadingComplete image) →
    t.port = s.port

/-- At its grant a paint of a slot that is still BOUND with the recorded generation stores the value, the direction,
the marks and the highlight; otherwise it is abandoned. When it is applied it writes the formatter's glyphs, in the
colours of the slot as its grant left it, to the base layer of the slot's cells, and counts; an abandoned one writes
nothing and is counted. Then the port is granted on and the paint unit takes work. (That the row PAINT_COMPLETION is
the unit's end is log 7.) -/
def Obligations.PaintCompletes : Prop :=
  (∀ (s : State) (n : Nat) (g : BitVec 8) (v : Value) (src : Nat) (stamp : BitVec 32) (r : Slot),
    s.paint = some (.paint n g v src stamp) → r = s.slot n →
    ∃ t, s.grant .paint = t ∧
      t = { s with
        fields := { s.fields with slots := t.fields.slots }
        port := { holder := some .paint, decided := t.port.decided } } ∧
      (∀ m, m ≠ n → t.slot m = s.slot m) ∧
      (r.bound = false ∨ r.generation ≠ g → t.fields = s.fields ∧ t.port.decided = .abandoned) ∧
      (r.bound = true → r.generation = g → ∀ f move,
        f = formatValue r.format r.place.width v → move = tickOf r.direction r.shown v →
        t.port.decided = .slot (t.slot n) ∧
        ∃ h, t.slot n = { r with
            shown := some { value := v, source := src }
            direction := move.1, overflow := f.overflow
            stale := decide ((s.peer src).state ≠ .live)
            highlight := h, restyle := false } ∧
          ((s.peer src).state ≠ .live → h = { r.highlight with stage := .none, remaining := 0 }) ∧
          ((s.peer src).state = .live → r.rule = .tick → move.2 = true → 1 ≤ s.control.config.hold →
            h = { stage := .flash, remaining := s.control.config.hold
                  flashUp := decide (move.1 = .up) }) ∧
          ((s.peer src).state = .live →
            (r.rule ≠ .tick ∨ move.2 = false ∨ s.control.config.hold = 0) → h = r.highlight))) ∧
  ∀ (s : State) (n : Nat) (g : BitVec 8) (v : Value) (src : Nat) (stamp : BitVec 32),
    s.OverlayLaw → (∀ k, s.counter k ≤ Config.counterTop) → s.control.mode = .running →
    s.port.holder = some .paint → s.paint = some (.paint n g v src stamp) →
    ∃ u : State, exec .paintCompletion s = .next
        (u.portPassed (grantOrder s.overlay.request.isSome s.crawl.request false s.text.isSome)).paintTake ∧
      u = { (s.withRunning u).withScan u with
        store := { s.store with cells := u.store.cells }
        overlay := { s.overlay with save := u.overlay.save }
        paint := none } ∧
      s.ScansOn u ∧
      (s.port.decided = .abandoned → u.store = s.store ∧ u.overlay = s.overlay ∧ s.risesTo u [(41, 1)]) ∧
      ∀ r, s.port.decided = .slot r → ∀ f, f = formatValue r.format r.place.width v →
        s.risesTo u ([(40, 1)] ++ (if f.overflow then [(42, 1)] else []) ++
          (if f.clamp then [(44, 1)] else [])) ∧
        ∃ fg bg, r.Coloured s.control.config.roles fg bg ∧
          ∃ new, s.paintsBase u r.place.cells new ∧
            ∀ x glyph, f.glyphs[x]? = some glyph → x < r.place.width →
              new (cellKey r.place.row (r.place.col + x)) =
                { glyph := frameGlyph glyph, fg := fg, bg := bg
                  attrs := { r.base.attrs with inverse := false } }

/-- At its grant a restyle reads its slot, when it is still BOUND with the recorded generation, and is otherwise
abandoned; it changes no field of the slot. When it is applied it recolours the base layer of the slot's cells in the
colours of the slot as its grant found it, each cell keeping its glyph; an abandoned one writes nothing. It changes no
counter; then the port is granted on and the paint unit takes work. (That the row RESTYLE_COMPLETION is the unit's end
is log 7.) -/
def Obligations.RestyleCompletes : Prop :=
  (∀ (s : State) (n : Nat) (g : BitVec 8) (r : Slot), s.paint = some (.restyle n g) → r = s.slot n →
    (r.bound = true → r.generation = g →
      s.grant .paint = { s with port := { holder := some .paint, decided := .slot r } }) ∧
    (r.bound = false ∨ r.generation ≠ g →
      s.grant .paint = { s with port := { holder := some .paint, decided := .abandoned } })) ∧
  ∀ (s : State) (n : Nat) (g : BitVec 8), s.OverlayLaw → s.control.mode = .running →
    s.port.holder = some .paint → s.paint = some (.restyle n g) →
    ∃ u : State, exec .restyleCompletion s = .next
        (u.portPassed (grantOrder s.overlay.request.isSome s.crawl.request false s.text.isSome)).paintTake ∧
      u = { s.withScan u with
        store := { s.store with cells := u.store.cells }
        overlay := { s.overlay with save := u.overlay.save }
        paint := none } ∧
      s.ScansOn u ∧
      (s.port.decided = .abandoned → u.store = s.store ∧ u.overlay = s.overlay) ∧
      ∀ r, s.port.decided = .slot r → ∃ fg bg, r.Coloured s.control.config.roles fg bg ∧
        s.paintsBase u r.place.cells (fun i =>
          { glyph := (s.baseCell i).glyph, fg := fg, bg := bg
            attrs := { r.base.attrs with inverse := false } })

/-- A stage with 0 frames remaining moves on: FLASH to FADE-1 or, with a fade step of 0, to NONE; FADE-1 to FADE-2 to
FADE-3 to NONE. The flash direction is kept, the slot is marked restyle-pending, and an IDLE paint unit takes work.
(That a move is a command of its own is log 9, that the command changes nothing when no move is due is
log 4, and that f is the earlier configuration's in LOADING is log 20.) -/
def Obligations.HighlightMovesOn : Prop :=
  ∀ (s : State) (n : Nat) (r : Slot), n < 256 → s.control.mode ≠ .held → r = s.slot n →
    (r.highlight.stage = .none ∨ r.highlight.remaining ≠ 0 → exec (.highlightMove n) s = .next s) ∧
    (r.highlight.stage ≠ .none → r.highlight.remaining = 0 → ∃ h,
      exec (.highlightMove n) s = .next (s.setSlot n { r with highlight := h, restyle := true }).paintTake ∧
      h.flashUp = r.highlight.flashUp ∧
      (r.highlight.stage = .flash → 1 ≤ s.control.config.fade →
        h.stage = .fade1 ∧ h.remaining = s.control.config.fade) ∧
      (r.highlight.stage = .flash → s.control.config.fade = 0 → h.stage = .none ∧ h.remaining = 0) ∧
      (r.highlight.stage = .fade1 → h.stage = .fade2 ∧ h.remaining = s.control.config.fade) ∧
      (r.highlight.stage = .fade2 → h.stage = .fade3 ∧ h.remaining = s.control.config.fade) ∧
      (r.highlight.stage = .fade3 → h.stage = .none ∧ h.remaining = 0))

/-- Rescaling to d places is exact when d is at least the scale, and else rounds to the nearest, an exact half away
from zero. The tick comparison compares the two values at one scale: greater is UP, less is DOWN, equal keeps the
direction and is no change. A first value and a text value leave NONE and are no change. -/
def Obligations.RescaleAndTickExact : Prop :=
  (∀ (v : Int) (s d : Nat), s ≤ d → rescale v s d = v * 10 ^ (d - s)) ∧
  (∀ (v m : Int) (s d : Nat), d < s → m = rescale v s d →
    2 * m.natAbs * 10 ^ (s - d) ≤ 2 * v.natAbs + 10 ^ (s - d) ∧
    2 * v.natAbs + 10 ^ (s - d) < 2 * (m.natAbs + 1) * 10 ^ (s - d) ∧
    (0 < m → 0 < v) ∧ (m < 0 → v < 0)) ∧
  (∀ (dir : Direction) (sOld sNew src : Nat) (vOld vNew : BitVec 32) (move : Direction × Bool),
    move = tickOf dir (some ⟨.numeric sOld vOld, src⟩) (.numeric sNew vNew) →
    (vOld.toInt * 10 ^ sNew < vNew.toInt * 10 ^ sOld → move = (.up, true)) ∧
    (vNew.toInt * 10 ^ sOld < vOld.toInt * 10 ^ sNew → move = (.down, true)) ∧
    (vNew.toInt * 10 ^ sOld = vOld.toInt * 10 ^ sNew → move = (dir, false))) ∧
  (∀ (dir : Direction) (v : Value), tickOf dir none v = (.none, false)) ∧
  ∀ (dir : Direction) (shown : Option Shown) (glyphs : List Byte), tickOf dir shown (.text glyphs) = (.none, false)

/-- The formatter returns exactly w glyphs, all '#' when the value overflows. Whole numbers are written in decimal
without leading zeros and read back as themselves, fixed-length fields are zero-filled, and grouping adds a comma for
each three digits and changes nothing else. A DECIMAL, CHANGE or FRACTION value takes its grouped form when G is 1 and
it fits, else its plain form when it fits, right-justified, and else overflows; a SIZE value takes the first string of
its stages that fits. The strings are those of R60, R62, R67 and R69. A text value is cut or filled at the right. -/
def Obligations.FormatterFits : Prop :=
  (∀ (fmt : Format) (w : Nat) (v : Value) (f : Formatted), f = formatValue fmt w v →
    f.glyphs.length = w ∧ (f.overflow = true → f.glyphs = List.replicate w 35) ∧
    (∀ text, v = .text text → f.overflow = false ∧ f.clamp = false ∧
      ∀ i, i < w → f.glyphs[i]? = some (text.getD i 32)) ∧
    (∀ scale raw, v = .numeric scale raw →
      (f.clamp = true ↔ fmt.kind = .size ∧ raw.toInt < 0) ∧
      (∀ build : Bool → List Byte,
        (fmt.kind = .decimal ∧
            build = decimalString false fmt.places (rescale raw.toInt scale fmt.places) ∨
          fmt.kind = .change ∧
            build = decimalString true fmt.places (rescale raw.toInt scale fmt.places) ∨
          fmt.kind = .fraction ∧ build = fractionString fmt.expo fmt.half raw.toInt scale) →
        (fmt.group = true → (build true).length ≤ w → f.overflow = false ∧
          f.glyphs = List.replicate (w - (build true).length) 32 ++ build true) ∧
        (fmt.group = false ∨ w < (build true).length →
          ((build false).length ≤ w → f.overflow = false ∧
            f.glyphs = List.replicate (w - (build false).length) 32 ++ build false) ∧
          (w < (build false).length → f.overflow = true))) ∧
      ∀ (n : Nat) (tried : List (List Byte)), fmt.kind = .size →
        n = (rescale (if raw.toInt < 0 then 0 else raw.toInt) scale 0).toNat →
        tried = ([(n, []), (n / 1000, [75]), (n / 1000000, [77]), (n / 1000000000, [66])].filter
            (fun e => decide (e.2 = []) || decide (1 ≤ e.1))).flatMap (fun e =>
          (if fmt.group then [grouped (digits e.1) ++ e.2] else []) ++ [digits e.1 ++ e.2]) →
        (∀ before taken after, tried = before ++ taken :: after → (∀ x ∈ before, w < x.length) →
          taken.length ≤ w → f.overflow = false ∧
            f.glyphs = List.replicate (w - taken.length) 32 ++ taken) ∧
        ((∀ x ∈ tried, w < x.length) → f.overflow = true))) ∧
  (∀ (d : Nat) (m : Int) (comma : Bool) (whole places : List Byte),
    whole = (if comma then grouped (digits (m.natAbs / 10 ^ d)) else digits (m.natAbs / 10 ^ d)) →
    places = (if d = 0 then [] else 46 :: fixedDigits d (m.natAbs % 10 ^ d)) →
    decimalString false d m comma = (if m < 0 then [45] else []) ++ whole ++ places ∧
    decimalString true d m comma =
      (if m < 0 then [45] else if 0 < m then [43] else []) ++ whole ++ places) ∧
  (∀ (k s units parts whole left : Nat) (half comma : Bool) (v : Int), 1 ≤ k → k ≤ 8 →
    units = 2 ^ (k + half.toNat) →
    parts = (2 * (v.natAbs % 10 ^ s) * units + 10 ^ s) / (2 * 10 ^ s) →
    whole = (if parts = units then v.natAbs / 10 ^ s + 1 else v.natAbs / 10 ^ s) →
    left = (if parts = units then 0 else parts) →
    fractionString k half v s comma =
      (if v < 0 ∧ (whole ≠ 0 ∨ left ≠ 0) then [45] else []) ++
      (if comma then grouped (digits whole) else digits whole) ++ [45] ++
      fixedDigits (if k ≤ 3 then 1 else if k ≤ 6 then 2 else 3) (if half then left / 2 else left) ++
      (if half then [if left % 2 = 1 then 43 else 32] else [])) ∧
  (∀ len n : Nat, (fixedDigits len n).length = len ∧ (∀ g ∈ fixedDigits len n, 48 ≤ g.toNat ∧ g.toNat ≤ 57) ∧
    (fixedDigits len n).foldl (fun value g => 10 * value + (g.toNat - 48)) 0 = n % 10 ^ len) ∧
  ∀ n : Nat, n < 10 ^ 40 →
    (∀ g ∈ digits n, 48 ≤ g.toNat ∧ g.toNat ≤ 57) ∧
    (digits n).foldl (fun value g => 10 * value + (g.toNat - 48)) 0 = n ∧
    ((digits n).head? = some 48 → n = 0 ∧ digits n = [48]) ∧
    (grouped (digits n)).filter (fun g => decide (g ≠ 44)) = digits n ∧
    (grouped (digits n)).length = (digits n).length + ((digits n).length - 1) / 3 ∧
    ∀ i, i < (grouped (digits n)).length → ((grouped (digits n)).reverse[i]? = some 44 ↔ i % 4 = 3)

/-! ## Frame starts and the screen -/

/-- At a frame start the scan engine has read the rest of the display frame, while no unit holds the port as it stands,
else each cell as it stands or as the unit writes it, at any of its writes to that cell (free, log 15); and blanking ends
once RUNNING has been entered since the cold reset began. In every state but HELD it ages every running highlight. While
RUNNING it ages every peer entry's lane ages, beacon age and, when LIVE, silence age, which at the stale time makes the entry SILENT;
it increases the phase count, decreases the beacon countdown and hands the crawl engine its tick; in the other states
nothing else changes (log 17). (The events it raises are commands of their own, log 9; the premise says that those of
the last frame start are taken.) -/
def Obligations.FrameStartAges : Prop :=
  ∀ s : State, s.Canonical → s.Settled → s.control.config.interval ≤ 255 →
    ∃ t, exec .frameStart s = .next t ∧
      t.scan = { s.scan with
        frame := t.scan.frame, read := 6144, blank := s.scan.blank && s.control.coldCause.isSome } ∧
      (∀ i, i < 6144 → (i < s.scan.read ∨ s.port.holder = none) → t.shownCell i = s.shownCell i) ∧
      (∃ (c : Instr) (u : State), c ∈ [.bindFill, .baseRun, .topRun, .openUnit, .closeUnit, .closeAllUnit,
          .orphanClose, .unwinding, .paintCompletion, .restyleCompletion, .crawlRepaint] ∧ exec c s = .next u ∧
        ∀ i, i < 6144 → s.scan.read ≤ i →
          t.shownCell i = s.cell i ∨ s.Restores i (t.shownCell i) ∨ t.shownCell i = u.cell i) ∧
      (s.control.mode = .held → t = { s with scan := t.scan, freeCount := t.freeCount }) ∧
      (s.control.mode ≠ .held → t.fields.stamp = s.fields.stamp ∧
        ∀ n, ((s.slot n).highlight.stage = .none → t.slot n = s.slot n) ∧
          ((s.slot n).highlight.stage ≠ .none → t.slot n = { s.slot n with
            highlight := { (s.slot n).highlight with
              remaining := (s.slot n).highlight.remaining - 1 } })) ∧
      (s.control.mode ≠ .held → s.control.mode ≠ .running →
        t = { s with scan := t.scan, fields := t.fields, freeCount := t.freeCount }) ∧
      (s.control.mode = .running →
        t = { s with
          peers := t.peers
          fields := t.fields
          scan := t.scan
          freeCount := t.freeCount
          group := { s.group with phase := s.group.phase + 1, countdown := s.group.countdown - 1 }
          crawl := { s.crawl with tickDue := t.crawl.tickDue } } ∧
        (∀ p, t.peer p = { s.peer p with
            ageA := min 255 ((s.peer p).ageA + 1), ageB := min 255 ((s.peer p).ageB + 1)
            beaconAge := min 65535 ((s.peer p).beaconAge + 1)
            silenceAge := (t.peer p).silenceAge, state := (t.peer p).state
            silenceDue := (t.peer p).silenceDue, lapseDue := (t.peer p).lapseDue } ∧
          ((t.peer p).lapseDue = true ↔ (s.peer p).painter = true ∧
            (s.peer p).beaconGroup = s.control.config.group ∧
            (s.peer p).beaconAge + 1 = 3 * s.control.config.interval) ∧
          ((s.peer p).state ≠ .live → (t.peer p).state = (s.peer p).state ∧
            (t.peer p).silenceAge = (s.peer p).silenceAge ∧ (t.peer p).silenceDue = false) ∧
          ((s.peer p).state = .live → (t.peer p).silenceAge = (s.peer p).silenceAge + 1 ∧
            ((s.peer p).silenceAge + 1 = 16 * s.control.config.staleUnits →
              (t.peer p).state = .silent ∧ (t.peer p).silenceDue = true) ∧
            ((s.peer p).silenceAge + 1 ≠ 16 * s.control.config.staleUnits →
              (t.peer p).state = .live ∧ (t.peer p).silenceDue = false))) ∧
        (t.crawl.tickDue = true ↔ s.control.config.crawlRow ≠ none ∧
          (s.group.phase + 1).toNat % s.control.config.crawlStep = 0))

/-- A silence event marks stale every BOUND slot whose shown value came from the station, ends its highlight and marks
it restyle-pending; an IDLE paint unit then takes work, and the orphan check is made. Of these two either may come
first: the statement holds for every free value of log 11. -/
def Obligations.SilenceDelivered : Prop :=
  ∀ (s : State) (p : Nat), p < 63 → s.Canonical → s.control.mode = .running →
    (s.peer p).silenceDue = true →
    ∃ u t : State, exec (.silenceEvent p) s = .next t ∧
      u = { s with
        peers := u.peers, fields := { s.fields with slots := u.fields.slots }, freeCount := u.freeCount } ∧
      u.peer p = { s.peer p with silenceDue := false } ∧ (∀ q, q ≠ p → u.peer q = s.peer q) ∧
      (∀ n v, (s.slot n).bound = true → (s.slot n).shown = some v → v.source = p →
        u.slot n = { s.slot n with
          stale := true, restyle := true
          highlight := { (s.slot n).highlight with stage := .none, remaining := 0 } }) ∧
      (∀ n, ((s.slot n).bound = false ∨ ∀ v, (s.slot n).shown = some v → v.source ≠ p) →
        u.slot n = s.slot n) ∧
      (u.paintTake.OrphansChecked t ∨ ∃ v : State, u.OrphansChecked v ∧ t = v.paintTake)

/-- At the active start the phase count is sampled for the whole display frame and the reading of its cells begins. A
cell is drawn as it was read, or as it stands while it has not been read, by inverse, dim, blink and underline in that
order; a blanked frame shows nothing. While a write unit is applied the reading goes on to some cell, and each cell read
meanwhile is read as it stood before the unit, as the unit left it, or between the closes of several levels; what was
read before stays. (How far it reads, and at which of these a cell is read, is free, log 15: the statement holds for
every free value.) -/
def Obligations.ActiveStartDraws : Prop :=
  (∀ s : State, s.Settled → ∃ t, exec .activeStart s = .next t ∧
    t = { s with scan := { s.scan with
      sampled := s.group.phase, frame := [], frameBlank := s.scan.blank, read := 0 } } ∧
    ∀ i, t.shownCell i = s.cell i) ∧
  (∀ (s : State) (row col : Nat), (s.scan.frameBlank = true → s.pixel row col = none) ∧
    ∀ c ink paper, s.scan.frameBlank = false → c = s.shownCell (cellKey row col) →
      s.control.config.palette[c.fg.toNat]? = some ink →
      s.control.config.palette[c.bg.toNat]? = some paper →
      ∃ d, s.pixel row col = some d ∧ d.underline = c.attrs.underline ∧
        d.bg = (if c.attrs.inverse then ink else paper) ∧
        ∀ fg, fg = (if c.attrs.inverse then paper else ink) →
          (c.attrs.dim = false → d.fg = fg) ∧
          (c.attrs.dim = true → (d.fg.extractLsb' 8 4).toNat = (fg.extractLsb' 8 4).toNat / 2 ∧
            (d.fg.extractLsb' 4 4).toNat = (fg.extractLsb' 4 4).toNat / 2 ∧
            (d.fg.extractLsb' 0 4).toNat = (fg.extractLsb' 0 4).toNat / 2) ∧
          (c.attrs.blink = true →
            s.control.config.blink / 2 ≤ s.scan.sampled.toNat % s.control.config.blink → d.shape = 32) ∧
          (c.attrs.blink = false ∨
            s.scan.sampled.toNat % s.control.config.blink < s.control.config.blink / 2 →
            d.shape = c.glyph)) ∧
  ∀ s u t : State, t = u.scanned s → s.ScansOn t ∧
    t = { u with scan := { u.scan with frame := t.scan.frame, read := t.scan.read }, freeCount := t.freeCount }

/-! ## Queries -/

/-- Each query that reaches step 4 is answered from the state as it stands: STATUS with the status record, COUNTERS
with a page of the snapshot bank or RANGE, SLOT with the slot report, CAPTURE after copying and zeroing the running
bank, an unknown code with BAD_REQUEST. A query of the wrong length, or without a payload, is counted unusable, by each
row that takes it (log 12). The last source of a slot that shows nothing is a free value (log 5): the statement holds
for every value of it. -/
def Obligations.QueriesAnswered : Prop :=
  ∀ (s u : State) (f : RxFrame) (reply : State → ResultCode → List Byte → State),
    s.reaches f u → f.kind = kindQuery →
    reply = (fun v code data => v.queueReply f.sender kindQuery f.seq code data) →
    (f.payload = [1] → exec .status s = .next (reply u .done u.statusRecord)) ∧
    (∀ page, f.payload = [3, page] →
      (page.toNat ≤ 3 → exec .counters s = .next (reply u .done (page ::
        (List.range 12).flatMap (fun j =>
          bytes32 (BitVec.ofNat 32 (u.snapCounter (12 * page.toNat + j))))))) ∧
      (3 < page.toNat → exec .counters s = .next (reply u .range []))) ∧
    (∀ n, f.payload = [4, n] → ∃ last count,
      exec .slotQuery s = .next
        (reply { u with freeCount := count } .done (u.slotReport n.toNat last)) ∧
      ((u.slot n.toNat).shown ≠ none → count = u.freeCount)) ∧
    (f.payload = [2] → ∃ v : State, exec .capture s = .next (reply v .done []) ∧
      v = { u with control := { u.control with
        running := v.control.running, snapshot := v.control.snapshot } } ∧
      ∀ n, v.snapCounter n = u.counter n ∧ v.counter n = 0) ∧
    (∀ code rest, f.payload = code :: rest → code.toNat = 0 ∨ 5 < code.toNat →
      exec .badRequest s = .next (reply u .badRequest [])) ∧
    (f.payload = [] → exec .badRequest s = .next (u.bump 36 1)) ∧
    ∀ c code extra, (c, code, extra) ∈ [(Instr.status, 1, 0), (.capture, 2, 0), (.counters, 3, 1),
        (.slotQuery, 4, 1), (.restart true, 5, 0), (.restart false, 5, 0)] →
      (f.payload = [] ∨ ∃ rest, f.payload = BitVec.ofNat 8 code :: rest ∧ rest.length ≠ extra) →
      exec c s = .next (u.bump 36 1)

/-- The status record and the slot report read back, by the layouts of 11.3 and 11.2, as the values that they
report. -/
def Obligations.ReportsReadBack : Prop :=
  (∀ (s : State) (r : List Byte), s.Bounded → s.OverlayLaw → s.group.reference ≤ 63 → r = s.statusRecord →
    r.length = 22 ∧
    (byteAt r 0).toNat = s.control.config.station ∧ (byteAt r 1).toNat = s.control.config.group ∧
    ((byteAt r 2).getLsbD 0 = true ↔ s.control.valid = false) ∧
    ((byteAt r 2).getLsbD 1 = true ↔ s.control.clock = .backup) ∧
    ((byteAt r 2).getLsbD 2 = true ↔ s.control.clash = true) ∧
    (byteAt r 2).toNat / 16 = s.control.cause.code ∧
    (byteAt r 3).toNat = s.control.clamped ∧
    (byteAt r 4).toNat = s.group.timing.code ∧ (byteAt r 5).toNat = s.group.reference ∧
    be16 (byteAt r 6) (byteAt r 7) = s.group.phase ∧ be16 (byteAt r 8) (byteAt r 9) = s.crawl.p ∧
    (be16 (byteAt r 10) (byteAt r 11)).toNat = s.group.corrections ∧
    (byteAt r 12).toNat = s.overlay.levels.length ∧
    (be16 (byteAt r 13) (byteAt r 14)).toNat = s.overlay.used ∧
    (be16 (byteAt r 15) (byteAt r 16)).toNat =
      ((List.range 256).filter (fun n => (s.slot n).bound)).length ∧
    (be16 (byteAt r 17) (byteAt r 18)).toNat =
      ((List.range 256).filter (fun n => (s.slot n).pending.isSome)).length ∧
    (byteAt r 19).toNat = ((List.range 63).filter (fun p => decide ((s.peer p).state = .live))).length ∧
    (byteAt r 20).toNat = ((List.range 63).filter (fun p =>
      decide ((s.peer p).state = .live ∧ 64 < (s.peer p).ageA ∧ (s.peer p).ageB ≤ 64))).length ∧
    (byteAt r 21).toNat = ((List.range 63).filter (fun p =>
      decide ((s.peer p).state = .live ∧ 64 < (s.peer p).ageB ∧ (s.peer p).ageA ≤ 64))).length) ∧
  ∀ (s : State) (n : Nat) (last : Byte) (r : Slot) (report : List Byte), n < 256 → r = s.slot n →
    report = s.slotReport n last → r.key.source ≤ 63 → r.key.instrument ≤ 4095 → r.key.field ≤ 31 →
    r.place.row ≤ 47 → r.place.col ≤ 127 → r.place.width ≤ 16 → r.format.places ≤ 6 → r.format.expo ≤ 8 →
    r.priority ≤ 7 →
    (byteAt report 0).toNat = n ∧
    (byteAt report 1).getLsbD 0 = r.bound ∧ (byteAt report 1).getLsbD 1 = r.shown.isSome ∧
    (byteAt report 1).getLsbD 2 = r.stale ∧ (byteAt report 1).getLsbD 3 = r.overflow ∧
    (byteAt report 1).getLsbD 4 = r.pending.isSome ∧ byteAt report 2 = r.generation ∧
    (byteAt report 15).toNat / 16 = r.direction.code ∧
    (byteAt report 15).toNat % 16 = r.highlight.stage.code ∧
    (∃ op rest, parseBind (byteOf n :: report.drop 3) = some (op, rest) ∧
      op = { slot := n, source := r.key.source, instrument := r.key.instrument, field := r.key.field
             row := r.place.row, col := r.place.col, width := r.place.width
             kindCode := r.format.kind.code, ruleCode := r.rule.code
             places := r.format.places, expo := r.format.expo
             priority := r.priority, spare := 0, half := r.format.half, group := r.format.group
             fg := r.base.fg, bg := r.base.bg, attrs := op.attrs } ∧
      attrsOfByte op.attrs = r.base.attrs) ∧
    (r.shown = none → report.drop 16 = [last, 0, 0]) ∧
    (∀ scale raw src, r.shown = some ⟨.numeric scale raw, src⟩ → report.length = 23 ∧
      byteAt report 16 = byteOf src ∧ byteAt report 17 = 1 ∧ byteAt report 18 = byteOf scale ∧
      be32 (byteAt report 19) (byteAt report 20) (byteAt report 21) (byteAt report 22) = raw) ∧
    (∀ glyphs src, r.shown = some ⟨.text glyphs, src⟩ →
      report.drop 16 = [byteOf src, 2, byteOf glyphs.length] ++ glyphs)

/-! ## Resets, configuration and clocks -/

/-- RESTART begins a warm reset with cause REMOTE and is not answered: the queues and the dispatcher's hand are
emptied, every peer entry returns to its cold values, pending values are discarded, shown fields are marked stale, the
clash latch is cleared, and the sequence, the configuration, the phase count, P, the tape, the cells and both counter
banks are kept. Open levels are unwound first; with none, and no granted unit, the painter is RUNNING at once, in the
same step (log 18). (The premise on the crawl step is log 9.) -/
def Obligations.RestartBegins : Prop :=
  ∀ (s u : State) (f : RxFrame) (oscillator : Bool), s.reaches f u → f.kind = kindQuery →
    f.payload = [5] → u.Canonical → u.crawl.tickDue = false →
    ∃ t, exec (.restart oscillator) s = .next t ∧ u.WarmlyReset t .remote oscillator

/-- HELD is entered by the power-on detector and by nRST from any other state: the ports are stopped, the dispatcher's
hand and the waiting requests dropped, and the rest held; the values of a cold reset of cause POWER are set there. The
end of HELD decides the reset and its cause: cold for power-on, for an earlier cold reset not yet finished and for nCOLD
low, with the values of a cold reset of another cause set then, else warm; it clears the clash latch and returns the
clock to REFERENCE when the reference is running. (That a warm reset with nothing to unwind is RUNNING in the same step
is log 18; the premise on the crawl step is log 9; that a cold reset keeps the configuration fields other than the
station is log 20.) -/
def Obligations.ResetsDecided : Prop :=
  (∀ s : State, ∃ t, exec .powerOn s = .next t ∧ s.HeldFrom t ∧
    t.control.heldByPower = true ∧ t.control.clock = .backup ∧ t.faultAsserted = true ∧
    t.control.coldCause = some (s.control.coldCause.getD .power) ∧
    (t.control.coldCause = some .power → t.ColdValues) ∧
    (t.control.coldCause ≠ some .power → s.OnlyHeldFrom t)) ∧
  (∀ s : State, s.control.mode ≠ .held → ∃ t, exec .resetAssert s = .next t ∧ s.HeldFrom t ∧
    t.control.heldByPower = false ∧ t.control.clock = s.control.clock ∧
    t.control.coldCause = s.control.coldCause ∧
    (s.control.coldCause = some .power → t.ColdValues) ∧
    (s.control.coldCause ≠ some .power → s.OnlyHeldFrom t)) ∧
  ∀ (s : State) (coldLow oscillator : Bool), s.control.mode = .held →
    ∃ t, exec (.heldEnd coldLow oscillator) s = .next t ∧ t.control.clash = false ∧
      t.control.clock = (if oscillator then .reference else s.control.clock) ∧
      (∀ cause, s.control.coldCause = some cause → t.control.mode = .loading ∧ t.control.cause = cause ∧
        t.control.coldCause = some cause) ∧
      (s.control.coldCause = none → coldLow = true →
        t.control.mode = .loading ∧ t.control.cause = .coldPin ∧ t.control.coldCause = some .coldPin) ∧
      (s.control.coldCause = some .power → t = { s with control := t.control } ∧
        t.control = { s.control with
          mode := .loading, cause := .power, clash := false, clock := t.control.clock }) ∧
      (s.control.coldCause ≠ some .power → s.control.coldCause ≠ none ∨ coldLow = true →
        t.ColdValues ∧ t.store = s.store ∧ t.fields = s.fields ∧ t.crawl.p = s.crawl.p ∧
        t.crawl.tape = s.crawl.tape ∧ t.overlay.levels = s.overlay.levels ∧ t.port = s.port) ∧
      (s.control.coldCause = none → coldLow = false → s.Canonical → s.crawl.tickDue = false →
        s.WarmlyReset t .warmPin oscillator)

/-- The image is accepted by its marker and checksum and its fields are taken with each out-of-range one set to the
nearest legal value and counted; else DEFAULT is in force. CLEARING sets the cells, maps, slots, overlay stack, P and
tape, at its start (log 18), and when it is complete the painter is RUNNING with its ports open, its countdown set, its
election run and, with a crawl row, a repaint presented. -/
def Obligations.ConfigurationLoaded : Prop :=
  (∀ (s : State) (img : List Byte), img.length = 64 → s.control.mode = .loading →
    ∃ t, exec (.loadingComplete img) s = .next t ∧ t.control.mode = .clearing ∧
      t.store.cells = [] ∧ t.store.cover = [] ∧ t.fields = { slots := [], stamp := 0 } ∧
      t.overlay.levels = [] ∧ t.overlay.used = 0 ∧ t.crawl.p = 0 ∧ t.crawl.tape = [] ∧
      (∀ i, t.ownerOf i =
        if t.control.config.crawlRow = some (i / 128) then .crawl else .none) ∧
      t.port.holder = none ∧
      (¬(byteAt img 0 = 0xC5 ∧ ((img.take 62).map BitVec.toNat).sum % 65536 =
          256 * (byteAt img 62).toNat + (byteAt img 63).toNat) →
        t.control.valid = false ∧ t.control.config = Configuration.default ∧ t.control.clamped = 0) ∧
      (byteAt img 0 = 0xC5 → ((img.take 62).map BitVec.toNat).sum % 65536 =
          256 * (byteAt img 62).toNat + (byteAt img 63).toNat →
        ∀ (b : Nat → Nat) (cfg : Configuration), b = (fun i => (byteAt img i).toNat) →
          cfg = t.control.config →
          t.control.valid = true ∧
          cfg.station = min 63 (b 1) ∧ cfg.group = min 14 (b 2) ∧
          cfg.rate = (if b 3 = 0 then .mbit4 else .mbit8) ∧
          cfg.hold = b 47 ∧ cfg.fade = b 48 ∧ cfg.blink = max 2 (b 49 - b 49 % 2) ∧
          cfg.staleUnits = max 1 (b 50) ∧ cfg.interval = max 8 (b 51) ∧
          cfg.crawlRow = (if b 52 = 255 then none else some (min 47 (b 52))) ∧
          cfg.tileCount = max 1 (min 8 (b 54)) ∧
          cfg.tilePosition = min (min 7 (b 53)) (cfg.tileCount - 1) ∧
          cfg.crawlStep = max 1 (min 15 (b 55)) ∧
          (∀ i, i < 16 → cfg.palette[i]? =
            some ((byteAt img (4 + 2 * i)).extractLsb' 0 4 ++ byteAt img (5 + 2 * i))) ∧
          [cfg.roles.up, cfg.roles.down, cfg.roles.flashUp, cfg.roles.flashDown, cfg.roles.fade1,
            cfg.roles.fade2, cfg.roles.fade3, cfg.roles.stale, cfg.roles.overflow, cfg.roles.crawlFg,
            cfg.roles.crawlBg].map BitVec.toNat = (List.range 11).map (fun i => min 15 (b (36 + i))) ∧
          t.control.clamped = (([decide (63 < b 1), decide (14 < b 2), decide (1 < b 3),
              decide (b 49 < 2 ∨ b 49 % 2 = 1), decide (b 50 = 0), decide (b 51 < 8),
              decide (47 < b 52 ∧ b 52 ≠ 255), decide (b 54 = 0 ∨ 8 < b 54),
              decide (7 < b 53 ∨ cfg.tileCount ≤ b 53), decide (b 55 = 0 ∨ 15 < b 55)] ++
            (List.range 11).map (fun i => decide (15 < b (36 + i)))).filter id).length)) ∧
  ∀ s : State, s.control.mode = .clearing → s.peers = [] → s.fields.slots = [] →
    s.crawl.request = false → s.paint = none → s.port.holder = none →
    ∃ u t : State, exec .clearingComplete s = .next t ∧
      u = { s with
        control := { s.control with mode := .running, coldCause := none }
        portA := { s.portA with rx := rxOpened s.portA.carrier }
        portB := { s.portB with rx := rxOpened s.portB.carrier }
        group := { s.group with
          countdown := s.control.config.interval
          timing := u.group.timing, reference := u.group.reference }
        freeCount := u.freeCount } ∧
      (s.control.config.crawlRow = none → t = u) ∧
      (s.control.config.crawlRow ≠ none →
        t = ({ u with crawl := { u.crawl with request := true } } : State).grant .crawl) ∧
      (s.inhibited = true → u.group.timing = .free ∧ u.group.reference = 63) ∧
      (s.inhibited = false → s.control.config.station < 63 →
        u.group.timing = .leading ∧ u.group.reference = s.control.config.station)

/-- When the reference oscillator stops, the clock state becomes BACKUP: transmission is inhibited, the transmit queue
is emptied, both ports stop and go to IDLE, FAULT is asserted and a RUNNING painter runs its election. A further stop
has no effect. FAULT is asserted exactly while one of its four conditions holds. -/
def Obligations.ReferenceStopInhibits : Prop :=
  (∀ s : State, s.control.clock = .backup → exec .referenceStop s = .next s) ∧
  (∀ s : State, s.control.clock = .reference → ∃ t, exec .referenceStop s = .next t ∧
    t = { s with
      control := { s.control with clock := .backup }
      tx := { s.tx with frames := [] }
      portA := t.portA, portB := t.portB
      group := { s.group with timing := t.group.timing, reference := t.group.reference } } ∧
    t.inhibited = true ∧ t.faultAsserted = true ∧
    (∀ lane, t.lanePort lane = { s.lanePort lane with
        rx := (t.lanePort lane).rx, tx := .idle, hand := none, attempts := 0, hold := 0 } ∧
      ((s.lanePort lane).tx.inSend = true → s.control.mode = .running →
        (t.lanePort lane).rx = rxOpened (s.lanePort lane).carrier) ∧
      ((s.lanePort lane).tx.inSend = false ∨ s.control.mode ≠ .running →
        (t.lanePort lane).rx = (s.lanePort lane).rx)) ∧
    (s.control.mode ≠ .running → t.group = s.group) ∧
    ∀ candidate : Nat → Prop, s.control.mode = .running →
      (∀ q, candidate q ↔ q < 63 ∧ (s.peer q).painter = true ∧
        (s.peer q).beaconGroup = s.control.config.group ∧
        (s.peer q).beaconAge < 3 * s.control.config.interval) →
      ((∀ q, ¬ candidate q) → t.group.timing = .free ∧ t.group.reference = 63) ∧
      ∀ q, candidate q → (∀ r, r < q → ¬ candidate r) → t.group.reference = q ∧
        (q ≠ s.control.config.station → t.group.timing = .following)) ∧
  ∀ s : State, s.faultAsserted = true ↔ s.control.valid = false ∨ s.control.config.station = 63 ∨
    s.control.clock = .backup ∨ s.control.clash = true

end
end

