-- ==== Sys2Proof/Laws/Store.lean ====
section
/-!
SUPPORT. Addressed stores: reading after writing, and that every operation keeps the one canonical form.
-/
namespace Sys2Proof.Machine

variable {β : Type}

/-! ## Reading -/

@[simp] theorem storeGet_nil (d : β) (k : Nat) : storeGet d [] k = d := rfl

theorem storeGet_insert (d : β) (k j : Nat) (v : β) (m : Store β) (h : ∀ e ∈ m, e.1 ≠ k) :
    storeGet d (storeInsert k v m) j = if j = k then v else storeGet d m j := by
  induction m with
  | nil => simp [storeInsert, storeGet, eq_comm]
  | cons e m ih =>
    obtain ⟨i, w⟩ := e
    have hi : i ≠ k := h (i, w) (by simp)
    have ih := ih (fun e he => h e (by simp [he]))
    by_cases hk : k < i
    · simp only [storeInsert, hk, if_true, storeGet]
      by_cases hj : k = j
      · simp [hj]
      · simp [hj, Ne.symm hj]
    · simp only [storeInsert, hk, if_false, storeGet, ih]
      by_cases hj : i = j
      · subst hj; simp [hi]
      · simp [hj]

theorem storeErase_ne (k : Nat) (m : Store β) : ∀ e ∈ storeErase k m, e.1 ≠ k := by
  simp [storeErase]

theorem storeGet_erase (d : β) (k j : Nat) (m : Store β) :
    storeGet d (storeErase k m) j = if j = k then d else storeGet d m j := by
  induction m with
  | nil => simp [storeErase]
  | cons e m ih =>
    obtain ⟨i, w⟩ := e
    by_cases hi : i = k
    · subst hi
      rw [show storeErase i ((i, w) :: m) = storeErase i m by simp [storeErase], ih]
      by_cases hj : j = i
      · simp [hj]
      · simp [hj, storeGet, Ne.symm hj]
    · rw [show storeErase k ((i, w) :: m) = (i, w) :: storeErase k m by simp [storeErase, hi]]
      simp only [storeGet, ih]
      by_cases hj : i = j
      · subst hj; simp [hi]
      · simp [hj]

/-! ## The order of the keys -/

theorem keysRise_mono {lo lo' : Nat} (m : Store β) (h : keysRise lo m = true) (hl : lo' ≤ lo) :
    keysRise lo' m = true := by
  cases m with
  | nil => rfl
  | cons e m =>
    simp only [keysRise, Bool.and_eq_true, decide_eq_true_eq] at h ⊢
    exact ⟨by omega, h.2⟩

theorem keysRise_ge (m : Store β) {lo : Nat} (h : keysRise lo m = true) : ∀ e ∈ m, lo ≤ e.1 := by
  induction m generalizing lo with
  | nil => simp
  | cons e m ih =>
    simp only [keysRise, Bool.and_eq_true, decide_eq_true_eq] at h
    intro x hx
    rcases List.mem_cons.1 hx with rfl | hx
    · exact h.1
    · have := ih h.2 x hx; omega

theorem keysRise_filter (p : Nat × β → Bool) (m : Store β) {lo : Nat} (h : keysRise lo m = true) :
    keysRise lo (m.filter p) = true := by
  induction m generalizing lo with
  | nil => rfl
  | cons e m ih =>
    simp only [keysRise, Bool.and_eq_true, decide_eq_true_eq] at h
    have := ih h.2
    by_cases hp : p e = true
    · rw [List.filter_cons_of_pos hp]
      simp [keysRise, h.1, this]
    · rw [List.filter_cons_of_neg hp]
      exact keysRise_mono _ this (by omega)

theorem keysRise_insert (k : Nat) (v : β) (m : Store β) {lo : Nat} (hlo : lo ≤ k)
    (h : keysRise lo m = true) (hk : ∀ e ∈ m, e.1 ≠ k) : keysRise lo (storeInsert k v m) = true := by
  induction m generalizing lo with
  | nil => simp [storeInsert, keysRise, hlo]
  | cons e m ih =>
    obtain ⟨i, w⟩ := e
    simp only [keysRise, Bool.and_eq_true, decide_eq_true_eq] at h
    have hi : i ≠ k := hk (i, w) (by simp)
    by_cases hki : k < i
    · simp only [storeInsert, hki, if_true, keysRise, Bool.and_eq_true, decide_eq_true_eq]
      exact ⟨hlo, by omega, h.2⟩
    · simp only [storeInsert, hki, if_false, keysRise, Bool.and_eq_true, decide_eq_true_eq]
      exact ⟨h.1, ih (by omega) h.2 (fun e he => hk e (by simp [he]))⟩

theorem mem_storeInsert (k : Nat) (v : β) (m : Store β) (e : Nat × β) :
    e ∈ storeInsert k v m ↔ e = (k, v) ∨ e ∈ m := by
  induction m with
  | nil => simp [storeInsert]
  | cons x m ih =>
    obtain ⟨i, w⟩ := x
    by_cases hki : k < i
    · simp [storeInsert, hki]
    · simp only [storeInsert, hki, if_false, List.mem_cons, ih]
      tauto

theorem storeGet_of_lt (d : β) (m : Store β) {lo j : Nat} (h : keysRise lo m = true) (hj : j < lo) :
    storeGet d m j = d := by
  induction m generalizing lo with
  | nil => rfl
  | cons e m ih =>
    obtain ⟨i, w⟩ := e
    simp only [keysRise, Bool.and_eq_true, decide_eq_true_eq] at h
    have hij : i ≠ j := by omega
    simp [storeGet, hij, ih h.2 (by omega)]

/-! ## Reading after a write -/

variable [DecidableEq β]

/-- A read after a write: the value written at its key, every other key as before. -/
theorem storeGet_set (d : β) (m : Store β) (k j : Nat) (v : β) :
    storeGet d (storeSet d m k v) j = if j = k then v else storeGet d m j := by
  by_cases hv : v = d
  · subst hv; rw [storeSet, if_pos rfl, storeGet_erase]
  · rw [storeSet, if_neg hv, storeGet_insert _ _ _ _ _ (storeErase_ne k m), storeGet_erase]
    by_cases hj : j = k <;> simp [hj]

@[simp] theorem storeGet_set_same (d : β) (m : Store β) (k : Nat) (v : β) :
    storeGet d (storeSet d m k v) k = v := by simp [storeGet_set]

theorem storeGet_set_other (d : β) (m : Store β) {k j : Nat} (v : β) (h : j ≠ k) :
    storeGet d (storeSet d m k v) j = storeGet d m j := by simp [storeGet_set, h]

@[simp] theorem storeSetAll_nil (d : β) (m : Store β) : storeSetAll d m [] = m := rfl

@[simp] theorem storeSetAll_cons (d : β) (m : Store β) (e : Nat × β) (ps : List (Nat × β)) :
    storeSetAll d m (e :: ps) = storeSetAll d (storeSet d m e.1 e.2) ps := rfl

theorem storeGet_setAll_other (d : β) (ps : List (Nat × β)) (m : Store β) (j : Nat)
    (h : ∀ e ∈ ps, e.1 ≠ j) : storeGet d (storeSetAll d m ps) j = storeGet d m j := by
  induction ps generalizing m with
  | nil => rfl
  | cons e ps ih =>
    rw [storeSetAll_cons, ih _ (fun x hx => h x (by simp [hx])),
      storeGet_set_other _ _ _ (Ne.symm (h e (by simp)))]

/-- Writing a value that depends on the key alone at every key of a list. -/
theorem storeGet_setAll_map (d : β) (keys : List Nat) (g : Nat → β) (m : Store β) (j : Nat) :
    storeGet d (storeSetAll d m (keys.map (fun i => (i, g i)))) j =
      if j ∈ keys then g j else storeGet d m j := by
  induction keys generalizing m with
  | nil => simp
  | cons i keys ih =>
    rw [List.map_cons, storeSetAll_cons, ih]
    by_cases hj : j ∈ keys
    · simp [hj]
    · by_cases hi : j = i
      · simp [hi]
      · simp [hj, hi, storeGet_set]

/-! ## The canonical form -/

theorem storeWf_iff (d : β) (m : Store β) :
    storeWf d m = true ↔ keysRise 0 m = true ∧ ∀ e ∈ m, e.2 ≠ d := by
  simp [storeWf]

@[simp] theorem storeWf_nil (d : β) : storeWf d ([] : Store β) = true := rfl

/-- A write keeps the canonical form. -/
theorem storeSet_wf (d : β) (m : Store β) (k : Nat) (v : β) (h : storeWf d m = true) :
    storeWf d (storeSet d m k v) = true := by
  rw [storeWf_iff] at h ⊢
  have he : keysRise 0 (storeErase k m) = true := keysRise_filter _ _ h.1
  have hv : ∀ e ∈ storeErase k m, e.2 ≠ d := fun e hx => h.2 e (List.mem_of_mem_filter hx)
  by_cases hd : v = d
  · rw [storeSet, if_pos hd]; exact ⟨he, hv⟩
  · rw [storeSet, if_neg hd]
    refine ⟨keysRise_insert _ _ _ (Nat.zero_le k) he (storeErase_ne k m), fun e hx => ?_⟩
    rcases (mem_storeInsert _ _ _ _).1 hx with rfl | hx
    · exact hd
    · exact hv e hx

/-- Writing pairs in their order keeps the canonical form. -/
theorem storeSetAll_wf (d : β) (ps : List (Nat × β)) (m : Store β) (h : storeWf d m = true) :
    storeWf d (storeSetAll d m ps) = true := by
  induction ps generalizing m with
  | nil => exact h
  | cons e ps ih => exact ih _ (storeSet_wf d m e.1 e.2 h)

/-- Mapping every listed value keeps the keys' order. -/
theorem keysRise_map (d : β) (f : β → β) (m : Store β) {lo : Nat} (h : keysRise lo m = true) :
    keysRise lo (storeMap d f m) = true := by
  induction m generalizing lo with
  | nil => rfl
  | cons e m ih =>
    obtain ⟨i, w⟩ := e
    simp only [keysRise, Bool.and_eq_true, decide_eq_true_eq] at h
    have := ih h.2
    by_cases hw : f w = d
    · rw [storeMap, List.filterMap_cons_none (by simp [hw])]
      exact keysRise_mono _ this (by omega)
    · rw [storeMap, List.filterMap_cons_some (by simp [hw]; rfl)]
      simp only [keysRise, Bool.and_eq_true, decide_eq_true_eq]
      exact ⟨h.1, this⟩

/-- Mapping every listed value keeps the canonical form. -/
theorem storeMap_wf (d : β) (f : β → β) (m : Store β) (h : storeWf d m = true) :
    storeWf d (storeMap d f m) = true := by
  rw [storeWf_iff] at h ⊢
  refine ⟨keysRise_map d f m h.1, fun e he => ?_⟩
  rw [storeMap, List.mem_filterMap] at he
  obtain ⟨x, -, hx⟩ := he
  by_cases hd : f x.2 = d
  · simp [hd] at hx
  · simp only [hd, if_false, Option.some.injEq] at hx
    rw [← hx]; exact hd

/-- In a canonical store, a map that keeps the unlisted value acts on every key. -/
theorem storeGet_map (d : β) (f : β → β) (m : Store β) (k : Nat) (hf : f d = d)
    (h : storeWf d m = true) : storeGet d (storeMap d f m) k = f (storeGet d m k) := by
  have key : ∀ (m : Store β) (lo : Nat), keysRise lo m = true →
      storeGet d (storeMap d f m) k = f (storeGet d m k) := by
    intro m
    induction m with
    | nil => intro _ _; simpa [storeMap] using hf.symm
    | cons e m ih =>
      intro lo h
      obtain ⟨i, w⟩ := e
      simp only [keysRise, Bool.and_eq_true, decide_eq_true_eq] at h
      by_cases hw : f w = d
      · rw [show storeMap d f ((i, w) :: m) = storeMap d f m from
          List.filterMap_cons_none (by simp [hw])]
        by_cases hi : i = k
        · subst hi
          rw [storeGet_of_lt d _ (keysRise_map d f m h.2) (Nat.lt_succ_self i)]
          simp [storeGet, hw]
        · rw [ih _ h.2]; simp [storeGet, hi]
      · rw [show storeMap d f ((i, w) :: m) = (i, f w) :: storeMap d f m from
          List.filterMap_cons_some (by simp [hw])]
        by_cases hi : i = k
        · simp [storeGet, hi]
        · simp [storeGet, hi, ih _ h.2]
  exact key m 0 ((storeWf_iff d m).1 h).1

end Sys2Proof.Machine
end

