-- ==== Sys2Proof/Laws/State.lean ====
section
/-!
SUPPORT. What each update of the state leaves alone and what it writes: one lemma per field per update.
-/
namespace Sys2Proof.Machine

variable (s : State)

/-! ### setPeer -/

@[simp] theorem State.setPeer_pending (p : Nat) (e : PeerEntry) : (s.setPeer p e).pending = s.pending := rfl
@[simp] theorem State.setPeer_portA (p : Nat) (e : PeerEntry) : (s.setPeer p e).portA = s.portA := rfl
@[simp] theorem State.setPeer_portB (p : Nat) (e : PeerEntry) : (s.setPeer p e).portB = s.portB := rfl
@[simp] theorem State.setPeer_frameQueue (p : Nat) (e : PeerEntry) : (s.setPeer p e).frameQueue = s.frameQueue := rfl
@[simp] theorem State.setPeer_tx (p : Nat) (e : PeerEntry) : (s.setPeer p e).tx = s.tx := rfl
@[simp] theorem State.setPeer_hand (p : Nat) (e : PeerEntry) : (s.setPeer p e).hand = s.hand := rfl
@[simp] theorem State.setPeer_text (p : Nat) (e : PeerEntry) : (s.setPeer p e).text = s.text := rfl
@[simp] theorem State.setPeer_fields (p : Nat) (e : PeerEntry) : (s.setPeer p e).fields = s.fields := rfl
@[simp] theorem State.setPeer_paint (p : Nat) (e : PeerEntry) : (s.setPeer p e).paint = s.paint := rfl
@[simp] theorem State.setPeer_store (p : Nat) (e : PeerEntry) : (s.setPeer p e).store = s.store := rfl
@[simp] theorem State.setPeer_port (p : Nat) (e : PeerEntry) : (s.setPeer p e).port = s.port := rfl
@[simp] theorem State.setPeer_scan (p : Nat) (e : PeerEntry) : (s.setPeer p e).scan = s.scan := rfl
@[simp] theorem State.setPeer_overlay (p : Nat) (e : PeerEntry) : (s.setPeer p e).overlay = s.overlay := rfl
@[simp] theorem State.setPeer_group (p : Nat) (e : PeerEntry) : (s.setPeer p e).group = s.group := rfl
@[simp] theorem State.setPeer_crawl (p : Nat) (e : PeerEntry) : (s.setPeer p e).crawl = s.crawl := rfl
@[simp] theorem State.setPeer_control (p : Nat) (e : PeerEntry) : (s.setPeer p e).control = s.control := rfl
@[simp] theorem State.setPeer_freeCount (p : Nat) (e : PeerEntry) : (s.setPeer p e).freeCount = s.freeCount := rfl

/-! ### setSlot -/

@[simp] theorem State.setSlot_pending (n : Nat) (r : Slot) : (s.setSlot n r).pending = s.pending := rfl
@[simp] theorem State.setSlot_portA (n : Nat) (r : Slot) : (s.setSlot n r).portA = s.portA := rfl
@[simp] theorem State.setSlot_portB (n : Nat) (r : Slot) : (s.setSlot n r).portB = s.portB := rfl
@[simp] theorem State.setSlot_frameQueue (n : Nat) (r : Slot) : (s.setSlot n r).frameQueue = s.frameQueue := rfl
@[simp] theorem State.setSlot_tx (n : Nat) (r : Slot) : (s.setSlot n r).tx = s.tx := rfl
@[simp] theorem State.setSlot_peers (n : Nat) (r : Slot) : (s.setSlot n r).peers = s.peers := rfl
@[simp] theorem State.setSlot_hand (n : Nat) (r : Slot) : (s.setSlot n r).hand = s.hand := rfl
@[simp] theorem State.setSlot_text (n : Nat) (r : Slot) : (s.setSlot n r).text = s.text := rfl
@[simp] theorem State.setSlot_paint (n : Nat) (r : Slot) : (s.setSlot n r).paint = s.paint := rfl
@[simp] theorem State.setSlot_store (n : Nat) (r : Slot) : (s.setSlot n r).store = s.store := rfl
@[simp] theorem State.setSlot_port (n : Nat) (r : Slot) : (s.setSlot n r).port = s.port := rfl
@[simp] theorem State.setSlot_scan (n : Nat) (r : Slot) : (s.setSlot n r).scan = s.scan := rfl
@[simp] theorem State.setSlot_overlay (n : Nat) (r : Slot) : (s.setSlot n r).overlay = s.overlay := rfl
@[simp] theorem State.setSlot_group (n : Nat) (r : Slot) : (s.setSlot n r).group = s.group := rfl
@[simp] theorem State.setSlot_crawl (n : Nat) (r : Slot) : (s.setSlot n r).crawl = s.crawl := rfl
@[simp] theorem State.setSlot_control (n : Nat) (r : Slot) : (s.setSlot n r).control = s.control := rfl
@[simp] theorem State.setSlot_freeCount (n : Nat) (r : Slot) : (s.setSlot n r).freeCount = s.freeCount := rfl
@[simp] theorem State.setSlot_fields_stamp (n : Nat) (r : Slot) : (s.setSlot n r).fields.stamp = s.fields.stamp := rfl

/-! ### mapSlots -/

@[simp] theorem State.mapSlots_pending (f : Slot → Slot) : (s.mapSlots f).pending = s.pending := rfl
@[simp] theorem State.mapSlots_portA (f : Slot → Slot) : (s.mapSlots f).portA = s.portA := rfl
@[simp] theorem State.mapSlots_portB (f : Slot → Slot) : (s.mapSlots f).portB = s.portB := rfl
@[simp] theorem State.mapSlots_frameQueue (f : Slot → Slot) : (s.mapSlots f).frameQueue = s.frameQueue := rfl
@[simp] theorem State.mapSlots_tx (f : Slot → Slot) : (s.mapSlots f).tx = s.tx := rfl
@[simp] theorem State.mapSlots_peers (f : Slot → Slot) : (s.mapSlots f).peers = s.peers := rfl
@[simp] theorem State.mapSlots_hand (f : Slot → Slot) : (s.mapSlots f).hand = s.hand := rfl
@[simp] theorem State.mapSlots_text (f : Slot → Slot) : (s.mapSlots f).text = s.text := rfl
@[simp] theorem State.mapSlots_paint (f : Slot → Slot) : (s.mapSlots f).paint = s.paint := rfl
@[simp] theorem State.mapSlots_store (f : Slot → Slot) : (s.mapSlots f).store = s.store := rfl
@[simp] theorem State.mapSlots_port (f : Slot → Slot) : (s.mapSlots f).port = s.port := rfl
@[simp] theorem State.mapSlots_scan (f : Slot → Slot) : (s.mapSlots f).scan = s.scan := rfl
@[simp] theorem State.mapSlots_overlay (f : Slot → Slot) : (s.mapSlots f).overlay = s.overlay := rfl
@[simp] theorem State.mapSlots_group (f : Slot → Slot) : (s.mapSlots f).group = s.group := rfl
@[simp] theorem State.mapSlots_crawl (f : Slot → Slot) : (s.mapSlots f).crawl = s.crawl := rfl
@[simp] theorem State.mapSlots_control (f : Slot → Slot) : (s.mapSlots f).control = s.control := rfl
@[simp] theorem State.mapSlots_freeCount (f : Slot → Slot) : (s.mapSlots f).freeCount = s.freeCount := rfl
@[simp] theorem State.mapSlots_fields_stamp (f : Slot → Slot) : (s.mapSlots f).fields.stamp = s.fields.stamp := rfl

/-! ### setCell -/

@[simp] theorem State.setCell_pending (i : Nat) (c : Cell) : (s.setCell i c).pending = s.pending := rfl
@[simp] theorem State.setCell_portA (i : Nat) (c : Cell) : (s.setCell i c).portA = s.portA := rfl
@[simp] theorem State.setCell_portB (i : Nat) (c : Cell) : (s.setCell i c).portB = s.portB := rfl
@[simp] theorem State.setCell_frameQueue (i : Nat) (c : Cell) : (s.setCell i c).frameQueue = s.frameQueue := rfl
@[simp] theorem State.setCell_tx (i : Nat) (c : Cell) : (s.setCell i c).tx = s.tx := rfl
@[simp] theorem State.setCell_peers (i : Nat) (c : Cell) : (s.setCell i c).peers = s.peers := rfl
@[simp] theorem State.setCell_hand (i : Nat) (c : Cell) : (s.setCell i c).hand = s.hand := rfl
@[simp] theorem State.setCell_text (i : Nat) (c : Cell) : (s.setCell i c).text = s.text := rfl
@[simp] theorem State.setCell_fields (i : Nat) (c : Cell) : (s.setCell i c).fields = s.fields := rfl
@[simp] theorem State.setCell_paint (i : Nat) (c : Cell) : (s.setCell i c).paint = s.paint := rfl
@[simp] theorem State.setCell_port (i : Nat) (c : Cell) : (s.setCell i c).port = s.port := rfl
@[simp] theorem State.setCell_scan (i : Nat) (c : Cell) : (s.setCell i c).scan = s.scan := rfl
@[simp] theorem State.setCell_overlay (i : Nat) (c : Cell) : (s.setCell i c).overlay = s.overlay := rfl
@[simp] theorem State.setCell_group (i : Nat) (c : Cell) : (s.setCell i c).group = s.group := rfl
@[simp] theorem State.setCell_crawl (i : Nat) (c : Cell) : (s.setCell i c).crawl = s.crawl := rfl
@[simp] theorem State.setCell_control (i : Nat) (c : Cell) : (s.setCell i c).control = s.control := rfl
@[simp] theorem State.setCell_freeCount (i : Nat) (c : Cell) : (s.setCell i c).freeCount = s.freeCount := rfl
@[simp] theorem State.setCell_store_owner (i : Nat) (c : Cell) : (s.setCell i c).store.owner = s.store.owner := rfl
@[simp] theorem State.setCell_store_cover (i : Nat) (c : Cell) : (s.setCell i c).store.cover = s.store.cover := rfl

/-! ### setCells -/

@[simp] theorem State.setCells_pending (ps : List (Nat × Cell)) : (s.setCells ps).pending = s.pending := rfl
@[simp] theorem State.setCells_portA (ps : List (Nat × Cell)) : (s.setCells ps).portA = s.portA := rfl
@[simp] theorem State.setCells_portB (ps : List (Nat × Cell)) : (s.setCells ps).portB = s.portB := rfl
@[simp] theorem State.setCells_frameQueue (ps : List (Nat × Cell)) : (s.setCells ps).frameQueue = s.frameQueue := rfl
@[simp] theorem State.setCells_tx (ps : List (Nat × Cell)) : (s.setCells ps).tx = s.tx := rfl
@[simp] theorem State.setCells_peers (ps : List (Nat × Cell)) : (s.setCells ps).peers = s.peers := rfl
@[simp] theorem State.setCells_hand (ps : List (Nat × Cell)) : (s.setCells ps).hand = s.hand := rfl
@[simp] theorem State.setCells_text (ps : List (Nat × Cell)) : (s.setCells ps).text = s.text := rfl
@[simp] theorem State.setCells_fields (ps : List (Nat × Cell)) : (s.setCells ps).fields = s.fields := rfl
@[simp] theorem State.setCells_paint (ps : List (Nat × Cell)) : (s.setCells ps).paint = s.paint := rfl
@[simp] theorem State.setCells_port (ps : List (Nat × Cell)) : (s.setCells ps).port = s.port := rfl
@[simp] theorem State.setCells_scan (ps : List (Nat × Cell)) : (s.setCells ps).scan = s.scan := rfl
@[simp] theorem State.setCells_overlay (ps : List (Nat × Cell)) : (s.setCells ps).overlay = s.overlay := rfl
@[simp] theorem State.setCells_group (ps : List (Nat × Cell)) : (s.setCells ps).group = s.group := rfl
@[simp] theorem State.setCells_crawl (ps : List (Nat × Cell)) : (s.setCells ps).crawl = s.crawl := rfl
@[simp] theorem State.setCells_control (ps : List (Nat × Cell)) : (s.setCells ps).control = s.control := rfl
@[simp] theorem State.setCells_freeCount (ps : List (Nat × Cell)) : (s.setCells ps).freeCount = s.freeCount := rfl
@[simp] theorem State.setCells_store_owner (ps : List (Nat × Cell)) : (s.setCells ps).store.owner = s.store.owner := rfl
@[simp] theorem State.setCells_store_cover (ps : List (Nat × Cell)) : (s.setCells ps).store.cover = s.store.cover := rfl

/-! ### markOwner -/

@[simp] theorem State.markOwner_pending (cs : List Nat) (o : Owner) : (s.markOwner cs o).pending = s.pending := rfl
@[simp] theorem State.markOwner_portA (cs : List Nat) (o : Owner) : (s.markOwner cs o).portA = s.portA := rfl
@[simp] theorem State.markOwner_portB (cs : List Nat) (o : Owner) : (s.markOwner cs o).portB = s.portB := rfl
@[simp] theorem State.markOwner_frameQueue (cs : List Nat) (o : Owner) : (s.markOwner cs o).frameQueue = s.frameQueue := rfl
@[simp] theorem State.markOwner_tx (cs : List Nat) (o : Owner) : (s.markOwner cs o).tx = s.tx := rfl
@[simp] theorem State.markOwner_peers (cs : List Nat) (o : Owner) : (s.markOwner cs o).peers = s.peers := rfl
@[simp] theorem State.markOwner_hand (cs : List Nat) (o : Owner) : (s.markOwner cs o).hand = s.hand := rfl
@[simp] theorem State.markOwner_text (cs : List Nat) (o : Owner) : (s.markOwner cs o).text = s.text := rfl
@[simp] theorem State.markOwner_fields (cs : List Nat) (o : Owner) : (s.markOwner cs o).fields = s.fields := rfl
@[simp] theorem State.markOwner_paint (cs : List Nat) (o : Owner) : (s.markOwner cs o).paint = s.paint := rfl
@[simp] theorem State.markOwner_port (cs : List Nat) (o : Owner) : (s.markOwner cs o).port = s.port := rfl
@[simp] theorem State.markOwner_scan (cs : List Nat) (o : Owner) : (s.markOwner cs o).scan = s.scan := rfl
@[simp] theorem State.markOwner_overlay (cs : List Nat) (o : Owner) : (s.markOwner cs o).overlay = s.overlay := rfl
@[simp] theorem State.markOwner_group (cs : List Nat) (o : Owner) : (s.markOwner cs o).group = s.group := rfl
@[simp] theorem State.markOwner_crawl (cs : List Nat) (o : Owner) : (s.markOwner cs o).crawl = s.crawl := rfl
@[simp] theorem State.markOwner_control (cs : List Nat) (o : Owner) : (s.markOwner cs o).control = s.control := rfl
@[simp] theorem State.markOwner_freeCount (cs : List Nat) (o : Owner) : (s.markOwner cs o).freeCount = s.freeCount := rfl
@[simp] theorem State.markOwner_store_cells (cs : List Nat) (o : Owner) : (s.markOwner cs o).store.cells = s.store.cells := rfl
@[simp] theorem State.markOwner_store_cover (cs : List Nat) (o : Owner) : (s.markOwner cs o).store.cover = s.store.cover := rfl

/-! ### setSaved -/

@[simp] theorem State.setSaved_pending (i : Nat) (c : Cell) : (s.setSaved i c).pending = s.pending := rfl
@[simp] theorem State.setSaved_portA (i : Nat) (c : Cell) : (s.setSaved i c).portA = s.portA := rfl
@[simp] theorem State.setSaved_portB (i : Nat) (c : Cell) : (s.setSaved i c).portB = s.portB := rfl
@[simp] theorem State.setSaved_frameQueue (i : Nat) (c : Cell) : (s.setSaved i c).frameQueue = s.frameQueue := rfl
@[simp] theorem State.setSaved_tx (i : Nat) (c : Cell) : (s.setSaved i c).tx = s.tx := rfl
@[simp] theorem State.setSaved_peers (i : Nat) (c : Cell) : (s.setSaved i c).peers = s.peers := rfl
@[simp] theorem State.setSaved_hand (i : Nat) (c : Cell) : (s.setSaved i c).hand = s.hand := rfl
@[simp] theorem State.setSaved_text (i : Nat) (c : Cell) : (s.setSaved i c).text = s.text := rfl
@[simp] theorem State.setSaved_fields (i : Nat) (c : Cell) : (s.setSaved i c).fields = s.fields := rfl
@[simp] theorem State.setSaved_paint (i : Nat) (c : Cell) : (s.setSaved i c).paint = s.paint := rfl
@[simp] theorem State.setSaved_store (i : Nat) (c : Cell) : (s.setSaved i c).store = s.store := rfl
@[simp] theorem State.setSaved_port (i : Nat) (c : Cell) : (s.setSaved i c).port = s.port := rfl
@[simp] theorem State.setSaved_scan (i : Nat) (c : Cell) : (s.setSaved i c).scan = s.scan := rfl
@[simp] theorem State.setSaved_group (i : Nat) (c : Cell) : (s.setSaved i c).group = s.group := rfl
@[simp] theorem State.setSaved_crawl (i : Nat) (c : Cell) : (s.setSaved i c).crawl = s.crawl := rfl
@[simp] theorem State.setSaved_control (i : Nat) (c : Cell) : (s.setSaved i c).control = s.control := rfl
@[simp] theorem State.setSaved_freeCount (i : Nat) (c : Cell) : (s.setSaved i c).freeCount = s.freeCount := rfl
@[simp] theorem State.setSaved_overlay_levels (i : Nat) (c : Cell) : (s.setSaved i c).overlay.levels = s.overlay.levels := rfl
@[simp] theorem State.setSaved_overlay_used (i : Nat) (c : Cell) : (s.setSaved i c).overlay.used = s.overlay.used := rfl
@[simp] theorem State.setSaved_overlay_request (i : Nat) (c : Cell) : (s.setSaved i c).overlay.request = s.overlay.request := rfl

/-! ### setTape -/

@[simp] theorem State.setTape_pending (i : Nat) (e : TapeEntry) : (s.setTape i e).pending = s.pending := rfl
@[simp] theorem State.setTape_portA (i : Nat) (e : TapeEntry) : (s.setTape i e).portA = s.portA := rfl
@[simp] theorem State.setTape_portB (i : Nat) (e : TapeEntry) : (s.setTape i e).portB = s.portB := rfl
@[simp] theorem State.setTape_frameQueue (i : Nat) (e : TapeEntry) : (s.setTape i e).frameQueue = s.frameQueue := rfl
@[simp] theorem State.setTape_tx (i : Nat) (e : TapeEntry) : (s.setTape i e).tx = s.tx := rfl
@[simp] theorem State.setTape_peers (i : Nat) (e : TapeEntry) : (s.setTape i e).peers = s.peers := rfl
@[simp] theorem State.setTape_hand (i : Nat) (e : TapeEntry) : (s.setTape i e).hand = s.hand := rfl
@[simp] theorem State.setTape_text (i : Nat) (e : TapeEntry) : (s.setTape i e).text = s.text := rfl
@[simp] theorem State.setTape_fields (i : Nat) (e : TapeEntry) : (s.setTape i e).fields = s.fields := rfl
@[simp] theorem State.setTape_paint (i : Nat) (e : TapeEntry) : (s.setTape i e).paint = s.paint := rfl
@[simp] theorem State.setTape_store (i : Nat) (e : TapeEntry) : (s.setTape i e).store = s.store := rfl
@[simp] theorem State.setTape_port (i : Nat) (e : TapeEntry) : (s.setTape i e).port = s.port := rfl
@[simp] theorem State.setTape_scan (i : Nat) (e : TapeEntry) : (s.setTape i e).scan = s.scan := rfl
@[simp] theorem State.setTape_overlay (i : Nat) (e : TapeEntry) : (s.setTape i e).overlay = s.overlay := rfl
@[simp] theorem State.setTape_group (i : Nat) (e : TapeEntry) : (s.setTape i e).group = s.group := rfl
@[simp] theorem State.setTape_control (i : Nat) (e : TapeEntry) : (s.setTape i e).control = s.control := rfl
@[simp] theorem State.setTape_freeCount (i : Nat) (e : TapeEntry) : (s.setTape i e).freeCount = s.freeCount := rfl
@[simp] theorem State.setTape_crawl_p (i : Nat) (e : TapeEntry) : (s.setTape i e).crawl.p = s.crawl.p := rfl
@[simp] theorem State.setTape_crawl_request (i : Nat) (e : TapeEntry) : (s.setTape i e).crawl.request = s.crawl.request := rfl
@[simp] theorem State.setTape_crawl_repeatMark (i : Nat) (e : TapeEntry) : (s.setTape i e).crawl.repeatMark = s.crawl.repeatMark := rfl
@[simp] theorem State.setTape_crawl_tickDue (i : Nat) (e : TapeEntry) : (s.setTape i e).crawl.tickDue = s.crawl.tickDue := rfl

/-! ### bump -/

@[simp] theorem State.bump_pending (n a : Nat) : (s.bump n a).pending = s.pending := rfl
@[simp] theorem State.bump_portA (n a : Nat) : (s.bump n a).portA = s.portA := rfl
@[simp] theorem State.bump_portB (n a : Nat) : (s.bump n a).portB = s.portB := rfl
@[simp] theorem State.bump_frameQueue (n a : Nat) : (s.bump n a).frameQueue = s.frameQueue := rfl
@[simp] theorem State.bump_tx (n a : Nat) : (s.bump n a).tx = s.tx := rfl
@[simp] theorem State.bump_peers (n a : Nat) : (s.bump n a).peers = s.peers := rfl
@[simp] theorem State.bump_hand (n a : Nat) : (s.bump n a).hand = s.hand := rfl
@[simp] theorem State.bump_text (n a : Nat) : (s.bump n a).text = s.text := rfl
@[simp] theorem State.bump_fields (n a : Nat) : (s.bump n a).fields = s.fields := rfl
@[simp] theorem State.bump_paint (n a : Nat) : (s.bump n a).paint = s.paint := rfl
@[simp] theorem State.bump_store (n a : Nat) : (s.bump n a).store = s.store := rfl
@[simp] theorem State.bump_port (n a : Nat) : (s.bump n a).port = s.port := rfl
@[simp] theorem State.bump_scan (n a : Nat) : (s.bump n a).scan = s.scan := rfl
@[simp] theorem State.bump_overlay (n a : Nat) : (s.bump n a).overlay = s.overlay := rfl
@[simp] theorem State.bump_group (n a : Nat) : (s.bump n a).group = s.group := rfl
@[simp] theorem State.bump_crawl (n a : Nat) : (s.bump n a).crawl = s.crawl := rfl
@[simp] theorem State.bump_freeCount (n a : Nat) : (s.bump n a).freeCount = s.freeCount := rfl
@[simp] theorem State.bump_control_mode (n a : Nat) : (s.bump n a).control.mode = s.control.mode := rfl
@[simp] theorem State.bump_control_heldByPower (n a : Nat) : (s.bump n a).control.heldByPower = s.control.heldByPower := rfl
@[simp] theorem State.bump_control_coldCause (n a : Nat) : (s.bump n a).control.coldCause = s.control.coldCause := rfl
@[simp] theorem State.bump_control_cause (n a : Nat) : (s.bump n a).control.cause = s.control.cause := rfl
@[simp] theorem State.bump_control_config (n a : Nat) : (s.bump n a).control.config = s.control.config := rfl
@[simp] theorem State.bump_control_valid (n a : Nat) : (s.bump n a).control.valid = s.control.valid := rfl
@[simp] theorem State.bump_control_clamped (n a : Nat) : (s.bump n a).control.clamped = s.control.clamped := rfl
@[simp] theorem State.bump_control_clock (n a : Nat) : (s.bump n a).control.clock = s.control.clock := rfl
@[simp] theorem State.bump_control_clash (n a : Nat) : (s.bump n a).control.clash = s.control.clash := rfl
@[simp] theorem State.bump_control_snapshot (n a : Nat) : (s.bump n a).control.snapshot = s.control.snapshot := rfl

/-! ### setLanePort -/

@[simp] theorem State.setLanePort_pending (l : Lane) (p : Port) : (s.setLanePort l p).pending = s.pending := by
  cases l <;> rfl
@[simp] theorem State.setLanePort_frameQueue (l : Lane) (p : Port) : (s.setLanePort l p).frameQueue = s.frameQueue := by
  cases l <;> rfl
@[simp] theorem State.setLanePort_tx (l : Lane) (p : Port) : (s.setLanePort l p).tx = s.tx := by
  cases l <;> rfl
@[simp] theorem State.setLanePort_peers (l : Lane) (p : Port) : (s.setLanePort l p).peers = s.peers := by
  cases l <;> rfl
@[simp] theorem State.setLanePort_hand (l : Lane) (p : Port) : (s.setLanePort l p).hand = s.hand := by
  cases l <;> rfl
@[simp] theorem State.setLanePort_text (l : Lane) (p : Port) : (s.setLanePort l p).text = s.text := by
  cases l <;> rfl
@[simp] theorem State.setLanePort_fields (l : Lane) (p : Port) : (s.setLanePort l p).fields = s.fields := by
  cases l <;> rfl
@[simp] theorem State.setLanePort_paint (l : Lane) (p : Port) : (s.setLanePort l p).paint = s.paint := by
  cases l <;> rfl
@[simp] theorem State.setLanePort_store (l : Lane) (p : Port) : (s.setLanePort l p).store = s.store := by
  cases l <;> rfl
@[simp] theorem State.setLanePort_port (l : Lane) (p : Port) : (s.setLanePort l p).port = s.port := by
  cases l <;> rfl
@[simp] theorem State.setLanePort_scan (l : Lane) (p : Port) : (s.setLanePort l p).scan = s.scan := by
  cases l <;> rfl
@[simp] theorem State.setLanePort_overlay (l : Lane) (p : Port) : (s.setLanePort l p).overlay = s.overlay := by
  cases l <;> rfl
@[simp] theorem State.setLanePort_group (l : Lane) (p : Port) : (s.setLanePort l p).group = s.group := by
  cases l <;> rfl
@[simp] theorem State.setLanePort_crawl (l : Lane) (p : Port) : (s.setLanePort l p).crawl = s.crawl := by
  cases l <;> rfl
@[simp] theorem State.setLanePort_control (l : Lane) (p : Port) : (s.setLanePort l p).control = s.control := by
  cases l <;> rfl
@[simp] theorem State.setLanePort_freeCount (l : Lane) (p : Port) : (s.setLanePort l p).freeCount = s.freeCount := by
  cases l <;> rfl

@[simp] theorem State.lanePort_setLanePort (l l' : Lane) (p : Port) :
    (s.setLanePort l p).lanePort l' = if l' = l then p else s.lanePort l' := by
  cases l <;> cases l' <;> rfl

@[simp] theorem State.setLanePort_same (l : Lane) : s.setLanePort l (s.lanePort l) = s := by
  cases l <;> rfl

/-! ### grant, present, release -/

/-- A grant to a writer other than the paint unit touches the port alone. -/
theorem State.grant_frame {w : Writer} (hw : w ≠ .paint) : ∃ p, s.grant w = { s with port := p } := by
  cases w
  · unfold State.grant State.grantOverlay
    dsimp only
    split <;> exact ⟨_, rfl⟩
  · exact ⟨_, rfl⟩
  · exact absurd rfl hw
  · exact ⟨_, rfl⟩

/-- A grant touches the port and, when it is a paint's, the slot that the paint updates (R82). -/
theorem State.grant_slots_frame (w : Writer) :
    ∃ m p, s.grant w = { s with fields := { s.fields with slots := m }, port := p } := by
  by_cases hw : w = .paint
  · subst hw
    unfold State.grant State.grantPaint
    dsimp only
    (repeat' split) <;> first | exact ⟨s.fields.slots, _, rfl⟩ | exact ⟨_, _, rfl⟩
  · obtain ⟨p, e⟩ := s.grant_frame hw
    exact ⟨s.fields.slots, p, e⟩

/-- At a free port a request is granted at once (R101). -/
theorem State.present_free (w : Writer) (h : s.port.holder = none) : s.present w = s.grant w := by
  simp [State.present, h]

/-- At a held port a request waits (R101). -/
theorem State.present_held (w : Writer) (h : s.port.holder ≠ none) : s.present w = s := by
  unfold State.present
  split
  · contradiction
  · rfl

theorem State.present_frame {w : Writer} (hw : w ≠ .paint) : ∃ p, s.present w = { s with port := p } := by
  unfold State.present
  split
  · exact s.grant_frame hw
  · exact ⟨s.port, rfl⟩

theorem State.present_slots_frame (w : Writer) :
    ∃ m p, s.present w = { s with fields := { s.fields with slots := m }, port := p } := by
  unfold State.present
  split
  · exact s.grant_slots_frame w
  · exact ⟨s.fields.slots, s.port, rfl⟩

/-- After a unit's end, outside HELD, the port goes to the first waiting writer in the order of R101. -/
theorem State.release_frame :
    ∃ m p, s.release = { s with fields := { s.fields with slots := m }, port := p } := by
  unfold State.release
  dsimp only
  (repeat' split) <;> first
    | exact ⟨s.fields.slots, _, rfl⟩
    | (obtain ⟨m, p, e⟩ := State.grant_slots_frame _ ‹Writer›; exact ⟨m, p, e⟩)

@[simp] theorem State.grantPaint_holder : s.grantPaint.port.holder = s.port.holder := by
  unfold State.grantPaint
  (repeat' split) <;> rfl

@[simp] theorem State.grant_holder (w : Writer) : (s.grant w).port.holder = some w := by
  cases w
  · unfold State.grant State.grantOverlay
    dsimp only
    split <;> rfl
  · rfl
  · exact State.grantPaint_holder _
  · rfl

/-- A request arriving at a free port is granted; at a held port it waits (R101). -/
theorem State.present_holder (w : Writer) : (s.present w).port.holder = some (s.port.holder.getD w) := by
  unfold State.present
  cases h : s.port.holder with
  | none => exact s.grant_holder w
  | some v => exact h

theorem State.release_holder :
    s.release.port.holder = if s.control.mode = .held then none else s.nextWaiting := by
  unfold State.release
  dsimp only
  split
  · rfl
  · split
    · rename_i h
      rw [h]
      exact State.grant_holder _ _
    · rename_i h
      rw [h]

@[simp] theorem State.grant_pending (w : Writer) : (s.grant w).pending = s.pending := by
  obtain ⟨_, _, e⟩ := s.grant_slots_frame w; rw [e]
@[simp] theorem State.grant_portA (w : Writer) : (s.grant w).portA = s.portA := by
  obtain ⟨_, _, e⟩ := s.grant_slots_frame w; rw [e]
@[simp] theorem State.grant_portB (w : Writer) : (s.grant w).portB = s.portB := by
  obtain ⟨_, _, e⟩ := s.grant_slots_frame w; rw [e]
@[simp] theorem State.grant_frameQueue (w : Writer) : (s.grant w).frameQueue = s.frameQueue := by
  obtain ⟨_, _, e⟩ := s.grant_slots_frame w; rw [e]
@[simp] theorem State.grant_tx (w : Writer) : (s.grant w).tx = s.tx := by
  obtain ⟨_, _, e⟩ := s.grant_slots_frame w; rw [e]
@[simp] theorem State.grant_peers (w : Writer) : (s.grant w).peers = s.peers := by
  obtain ⟨_, _, e⟩ := s.grant_slots_frame w; rw [e]
@[simp] theorem State.grant_hand (w : Writer) : (s.grant w).hand = s.hand := by
  obtain ⟨_, _, e⟩ := s.grant_slots_frame w; rw [e]
@[simp] theorem State.grant_text (w : Writer) : (s.grant w).text = s.text := by
  obtain ⟨_, _, e⟩ := s.grant_slots_frame w; rw [e]
@[simp] theorem State.grant_paint (w : Writer) : (s.grant w).paint = s.paint := by
  obtain ⟨_, _, e⟩ := s.grant_slots_frame w; rw [e]
@[simp] theorem State.grant_store (w : Writer) : (s.grant w).store = s.store := by
  obtain ⟨_, _, e⟩ := s.grant_slots_frame w; rw [e]
@[simp] theorem State.grant_scan (w : Writer) : (s.grant w).scan = s.scan := by
  obtain ⟨_, _, e⟩ := s.grant_slots_frame w; rw [e]
@[simp] theorem State.grant_overlay (w : Writer) : (s.grant w).overlay = s.overlay := by
  obtain ⟨_, _, e⟩ := s.grant_slots_frame w; rw [e]
@[simp] theorem State.grant_group (w : Writer) : (s.grant w).group = s.group := by
  obtain ⟨_, _, e⟩ := s.grant_slots_frame w; rw [e]
@[simp] theorem State.grant_crawl (w : Writer) : (s.grant w).crawl = s.crawl := by
  obtain ⟨_, _, e⟩ := s.grant_slots_frame w; rw [e]
@[simp] theorem State.grant_control (w : Writer) : (s.grant w).control = s.control := by
  obtain ⟨_, _, e⟩ := s.grant_slots_frame w; rw [e]
@[simp] theorem State.grant_freeCount (w : Writer) : (s.grant w).freeCount = s.freeCount := by
  obtain ⟨_, _, e⟩ := s.grant_slots_frame w; rw [e]
@[simp] theorem State.grant_fields_stamp (w : Writer) : (s.grant w).fields.stamp = s.fields.stamp := by
  obtain ⟨_, _, e⟩ := s.grant_slots_frame w; rw [e]

@[simp] theorem State.present_pending (w : Writer) : (s.present w).pending = s.pending := by
  obtain ⟨_, _, e⟩ := s.present_slots_frame w; rw [e]
@[simp] theorem State.present_portA (w : Writer) : (s.present w).portA = s.portA := by
  obtain ⟨_, _, e⟩ := s.present_slots_frame w; rw [e]
@[simp] theorem State.present_portB (w : Writer) : (s.present w).portB = s.portB := by
  obtain ⟨_, _, e⟩ := s.present_slots_frame w; rw [e]
@[simp] theorem State.present_frameQueue (w : Writer) : (s.present w).frameQueue = s.frameQueue := by
  obtain ⟨_, _, e⟩ := s.present_slots_frame w; rw [e]
@[simp] theorem State.present_tx (w : Writer) : (s.present w).tx = s.tx := by
  obtain ⟨_, _, e⟩ := s.present_slots_frame w; rw [e]
@[simp] theorem State.present_peers (w : Writer) : (s.present w).peers = s.peers := by
  obtain ⟨_, _, e⟩ := s.present_slots_frame w; rw [e]
@[simp] theorem State.present_hand (w : Writer) : (s.present w).hand = s.hand := by
  obtain ⟨_, _, e⟩ := s.present_slots_frame w; rw [e]
@[simp] theorem State.present_text (w : Writer) : (s.present w).text = s.text := by
  obtain ⟨_, _, e⟩ := s.present_slots_frame w; rw [e]
@[simp] theorem State.present_paint (w : Writer) : (s.present w).paint = s.paint := by
  obtain ⟨_, _, e⟩ := s.present_slots_frame w; rw [e]
@[simp] theorem State.present_store (w : Writer) : (s.present w).store = s.store := by
  obtain ⟨_, _, e⟩ := s.present_slots_frame w; rw [e]
@[simp] theorem State.present_scan (w : Writer) : (s.present w).scan = s.scan := by
  obtain ⟨_, _, e⟩ := s.present_slots_frame w; rw [e]
@[simp] theorem State.present_overlay (w : Writer) : (s.present w).overlay = s.overlay := by
  obtain ⟨_, _, e⟩ := s.present_slots_frame w; rw [e]
@[simp] theorem State.present_group (w : Writer) : (s.present w).group = s.group := by
  obtain ⟨_, _, e⟩ := s.present_slots_frame w; rw [e]
@[simp] theorem State.present_crawl (w : Writer) : (s.present w).crawl = s.crawl := by
  obtain ⟨_, _, e⟩ := s.present_slots_frame w; rw [e]
@[simp] theorem State.present_control (w : Writer) : (s.present w).control = s.control := by
  obtain ⟨_, _, e⟩ := s.present_slots_frame w; rw [e]
@[simp] theorem State.present_freeCount (w : Writer) : (s.present w).freeCount = s.freeCount := by
  obtain ⟨_, _, e⟩ := s.present_slots_frame w; rw [e]
@[simp] theorem State.present_fields_stamp (w : Writer) : (s.present w).fields.stamp = s.fields.stamp := by
  obtain ⟨_, _, e⟩ := s.present_slots_frame w; rw [e]

@[simp] theorem State.release_pending : (s.release).pending = s.pending := by
  obtain ⟨_, _, e⟩ := s.release_frame; rw [e]
@[simp] theorem State.release_portA : (s.release).portA = s.portA := by
  obtain ⟨_, _, e⟩ := s.release_frame; rw [e]
@[simp] theorem State.release_portB : (s.release).portB = s.portB := by
  obtain ⟨_, _, e⟩ := s.release_frame; rw [e]
@[simp] theorem State.release_frameQueue : (s.release).frameQueue = s.frameQueue := by
  obtain ⟨_, _, e⟩ := s.release_frame; rw [e]
@[simp] theorem State.release_tx : (s.release).tx = s.tx := by
  obtain ⟨_, _, e⟩ := s.release_frame; rw [e]
@[simp] theorem State.release_peers : (s.release).peers = s.peers := by
  obtain ⟨_, _, e⟩ := s.release_frame; rw [e]
@[simp] theorem State.release_hand : (s.release).hand = s.hand := by
  obtain ⟨_, _, e⟩ := s.release_frame; rw [e]
@[simp] theorem State.release_text : (s.release).text = s.text := by
  obtain ⟨_, _, e⟩ := s.release_frame; rw [e]
@[simp] theorem State.release_paint : (s.release).paint = s.paint := by
  obtain ⟨_, _, e⟩ := s.release_frame; rw [e]
@[simp] theorem State.release_store : (s.release).store = s.store := by
  obtain ⟨_, _, e⟩ := s.release_frame; rw [e]
@[simp] theorem State.release_scan : (s.release).scan = s.scan := by
  obtain ⟨_, _, e⟩ := s.release_frame; rw [e]
@[simp] theorem State.release_overlay : (s.release).overlay = s.overlay := by
  obtain ⟨_, _, e⟩ := s.release_frame; rw [e]
@[simp] theorem State.release_group : (s.release).group = s.group := by
  obtain ⟨_, _, e⟩ := s.release_frame; rw [e]
@[simp] theorem State.release_crawl : (s.release).crawl = s.crawl := by
  obtain ⟨_, _, e⟩ := s.release_frame; rw [e]
@[simp] theorem State.release_control : (s.release).control = s.control := by
  obtain ⟨_, _, e⟩ := s.release_frame; rw [e]
@[simp] theorem State.release_freeCount : (s.release).freeCount = s.freeCount := by
  obtain ⟨_, _, e⟩ := s.release_frame; rw [e]
@[simp] theorem State.release_fields_stamp : (s.release).fields.stamp = s.fields.stamp := by
  obtain ⟨_, _, e⟩ := s.release_frame; rw [e]

/-! ### Reading what was written -/

theorem State.peer_setPeer (p q : Nat) (e : PeerEntry) :
    (s.setPeer p e).peer q = if q = p then e else s.peer q := storeGet_set _ _ _ _ _

@[simp] theorem State.peer_setPeer_same (p : Nat) (e : PeerEntry) : (s.setPeer p e).peer p = e :=
  storeGet_set_same _ _ _ _

theorem State.slot_setSlot (n m : Nat) (r : Slot) :
    (s.setSlot n r).slot m = if m = n then r else s.slot m := storeGet_set _ _ _ _ _

@[simp] theorem State.slot_setSlot_same (n : Nat) (r : Slot) : (s.setSlot n r).slot n = r :=
  storeGet_set_same _ _ _ _

/-- In a canonical field table, a map that keeps the cold slot acts on every slot. -/
theorem State.slot_mapSlots (f : Slot → Slot) (n : Nat) (hf : f Slot.cold = Slot.cold)
    (h : storeWf Slot.cold s.fields.slots = true) : (s.mapSlots f).slot n = f (s.slot n) :=
  storeGet_map _ _ _ _ hf h

theorem State.cell_setCell (i j : Nat) (c : Cell) :
    (s.setCell i c).cell j = if j = i then c else s.cell j := storeGet_set _ _ _ _ _

theorem State.cell_setCells_map (keys : List Nat) (g : Nat → Cell) (j : Nat) :
    (s.setCells (keys.map (fun i => (i, g i)))).cell j = if j ∈ keys then g j else s.cell j :=
  storeGet_setAll_map _ _ _ _ _

theorem State.cell_setCells_other (ps : List (Nat × Cell)) (j : Nat) (h : ∀ e ∈ ps, e.1 ≠ j) :
    (s.setCells ps).cell j = s.cell j := storeGet_setAll_other _ _ _ _ h

theorem State.ownerOf_markOwner (cs : List Nat) (o : Owner) (j : Nat) :
    (s.markOwner cs o).ownerOf j = if j ∈ cs then o else s.ownerOf j :=
  storeGet_setAll_map _ _ (fun _ => o) _ _

theorem State.saved_setSaved (i j : Nat) (c : Cell) :
    (s.setSaved i c).saved j = if j = i then c else s.saved j := storeGet_set _ _ _ _ _

theorem State.tapeAt_setTape (i j : Nat) (e : TapeEntry) :
    (s.setTape i e).tapeAt j = if j = i then e else s.tapeAt j := storeGet_set _ _ _ _ _

/-- A counter after an increase holds at the top (R148). -/
theorem State.counter_bump (n a m : Nat) :
    (s.bump n a).counter m = if m = n then min Config.counterTop (s.counter n + a) else s.counter m :=
  storeGet_set _ _ _ _ _

theorem State.bumpIf_eq (c : Bool) (n : Nat) : s.bumpIf c n = if c then s.bump n 1 else s := rfl

theorem State.countUnusable_eq : s.countUnusable = s.bump 36 1 := rfl

end Sys2Proof.Machine
end

