-- ==== Sys2Proof/Laws/Frames.lean ====
section
/-!
SUPPORT. The frame of each shared operation, said once: the state after it is the state before it with only
the named parts replaced. A caller destructs the equation and reads every other field off it.
-/
namespace Sys2Proof.Machine

variable (s : State)

/-! ## Ops -/

theorem State.setLanePort_frame (l : Lane) (p : Port) :
    ∃ a b, s.setLanePort l p = { s with portA := a, portB := b } := by
  cases l
  · exact ⟨p, s.portB, rfl⟩
  · exact ⟨s.portA, p, rfl⟩

theorem State.bumpIf_frame (c : Bool) (n : Nat) :
    ∃ m, s.bumpIf c n = { s with control := { s.control with running := m } } := by
  cases c
  · exact ⟨s.control.running, rfl⟩
  · exact ⟨_, rfl⟩

theorem State.inEitherOrder_frame (a b : State → State) :
    s.inEitherOrder a b = b (a { s with freeCount := s.freeCount + 1 }) ∨
      s.inEitherOrder a b = a (b { s with freeCount := s.freeCount + 1 }) := by
  unfold State.inEitherOrder
  dsimp only
  split
  · exact .inl rfl
  · exact .inr rfl

/-- What holds in both orders holds in the free order. -/
theorem State.inEitherOrder_elim {P : State → Prop} (a b : State → State)
    (h : P (b (a { s with freeCount := s.freeCount + 1 }))) (h' : P (a (b { s with freeCount := s.freeCount + 1 }))) :
    P (s.inEitherOrder a b) := by
  rcases s.inEitherOrder_frame a b with e | e <;> rw [e] <;> assumption

/-- After a write unit only what has been read of the display frame, and the draws, have changed beside the
unit's own effect (R109). -/
theorem State.scanned_frame (t : State) :
    ∃ f n k, t.scanned s = { t with scan := { t.scan with frame := f, read := n }, freeCount := k } :=
  ⟨_, _, _, rfl⟩

theorem State.writeBase_frame (i : Nat) (c : Cell) :
    ∃ cells save, s.writeBase i c = { s with
      store := { s.store with cells := cells }, overlay := { s.overlay with save := save } } := by
  unfold State.writeBase
  split
  · exact ⟨_, s.overlay.save, rfl⟩
  · exact ⟨s.store.cells, _, rfl⟩

theorem State.writeBaseAll_frame (ps : List (Nat × Cell)) :
    ∃ cells save, s.writeBaseAll ps = { s with
      store := { s.store with cells := cells }, overlay := { s.overlay with save := save } } := by
  induction ps generalizing s with
  | nil => exact ⟨s.store.cells, s.overlay.save, rfl⟩
  | cons e ps ih =>
    obtain ⟨_, _, h⟩ := s.writeBase_frame e.1 e.2
    obtain ⟨c, v, h'⟩ := ih (s.writeBase e.1 e.2)
    exact ⟨c, v, by rw [show s.writeBaseAll (e :: ps) = (s.writeBase e.1 e.2).writeBaseAll ps from rfl, h', h]⟩

/-! ## Lanes -/

theorem State.contend_frame (l : Lane) : ∃ a b, s.contend l = { s with portA := a, portB := b } :=
  s.setLanePort_frame l _

theorem State.portTake_frame (l : Lane) : ∃ a b, s.portTake l = { s with portA := a, portB := b } := by
  unfold State.portTake
  split
  · split
    · obtain ⟨_, _, h⟩ := State.setLanePort_frame s l _
      rw [h]
      exact State.contend_frame _ l
    · exact ⟨s.portA, s.portB, rfl⟩
  · exact ⟨s.portA, s.portB, rfl⟩

theorem State.queueFrame_frame (kind : TxKind) (dest : Nat) (payload : List Byte) :
    ∃ a b, s.queueFrame kind dest payload = { s with
      tx :=
        { frames := s.tx.frames ++ [
            { kind := kind, group := s.control.config.group, dest := dest, seq := s.tx.seq
              restart := decide (s.tx.queued < 32), payload := payload
              sendA := .waiting, sendB := .waiting }]
          seq := s.tx.seq + 1
          queued := min 32 (s.tx.queued + 1) }
      portA := a
      portB := b } := by
  unfold State.queueFrame
  dsimp only
  obtain ⟨_, _, h⟩ := State.portTake_frame _ Lane.a
  rw [h]
  obtain ⟨a, b, h⟩ := State.portTake_frame _ Lane.b
  exact ⟨a, b, h⟩

theorem State.queueBeacon_frame (payload : List Byte) :
    ∃ q a b, s.queueBeacon payload = { s with tx := q, portA := a, portB := b } := by
  unfold State.queueBeacon
  (repeat' split) <;> first
    | exact ⟨s.tx, s.portA, s.portB, rfl⟩
    | exact ⟨_, s.portA, s.portB, rfl⟩
    | (obtain ⟨a, b, h⟩ := s.queueFrame_frame .beacon 63 payload; exact ⟨_, a, b, h⟩)

theorem State.queueReply_frame (dest kind : Nat) (seq : BitVec 16) (code : ResultCode) (data : List Byte) :
    ∃ q a b m, s.queueReply dest kind seq code data =
      { s with tx := q, portA := a, portB := b, control := { s.control with running := m } } := by
  unfold State.queueReply
  split
  · exact ⟨s.tx, s.portA, s.portB, _, rfl⟩
  · obtain ⟨a, b, h⟩ := s.queueFrame_frame .reply dest _
    exact ⟨_, a, b, s.control.running, h⟩

theorem State.countReception_frame (l : Lane) (cls : RxClass) (len : Nat) :
    ∃ m, s.countReception l cls len = { s with control := { s.control with running := m } } := by
  unfold State.countReception
  dsimp only
  split <;> exact ⟨_, rfl⟩

theorem State.takeGood_frame (l : Lane) (bytes : List Byte) :
    ∃ q m, s.takeGood l bytes = { s with frameQueue := q, control := { s.control with running := m } } := by
  unfold State.takeGood
  dsimp only
  (repeat' split) <;> exact ⟨_, _, rfl⟩

theorem State.dropCarrier_frame (l : Lane) : ∃ a b, s.dropCarrier l = { s with portA := a, portB := b } :=
  s.setLanePort_frame l _

theorem State.afterSent_frame (l : Lane) : ∃ a b, s.afterSent l = { s with portA := a, portB := b } := by
  have idle : ∀ p, ∃ a b, (s.setLanePort l p).portTake l = { s with portA := a, portB := b } := by
    intro p
    obtain ⟨_, _, h⟩ := s.setLanePort_frame l p
    rw [h]
    exact State.portTake_frame _ l
  unfold State.afterSent
  dsimp only
  (repeat' split) <;> first | exact idle _ | exact State.setLanePort_frame s l _

/-! ## Paint unit -/

theorem State.takeRestyle_frame (n : Nat) :
    ∃ m o h, s.takeRestyle n = { s with fields := { s.fields with slots := m }, paint := o, port := h } := by
  obtain ⟨m, h, e⟩ := State.present_slots_frame { (s.setSlot n { s.slot n with restyle := false }) with
    paint := some (.restyle n (s.slot n).generation) } .paint
  exact ⟨m, _, h, e⟩

theorem State.takePaint_frame (n : Nat) (p : Pending) :
    ∃ m o h, s.takePaint n p = { s with fields := { s.fields with slots := m }, paint := o, port := h } := by
  obtain ⟨m, h, e⟩ := State.present_slots_frame { (s.setSlot n { s.slot n with pending := none }) with
    paint := some (.paint n (s.slot n).generation p.value p.source p.stamp) } .paint
  exact ⟨m, _, h, e⟩

theorem State.paintTake_frame :
    ∃ m o h, s.paintTake = { s with
      fields := { s.fields with slots := m }, paint := o, port := h } := by
  unfold State.paintTake
  (repeat' split) <;> first
    | exact ⟨s.fields.slots, s.paint, s.port, rfl⟩
    | exact s.takeRestyle_frame _
    | exact s.takePaint_frame _ _

theorem State.moveHighlight_frame (n : Nat) :
    ∃ m o h, s.moveHighlight n = { s with
      fields := { s.fields with slots := m }, paint := o, port := h } := by
  unfold State.moveHighlight
  split
  · obtain ⟨m, o, h, e⟩ := State.paintTake_frame (s.setSlot n _)
    exact ⟨m, o, h, e⟩
  · exact ⟨s.fields.slots, s.paint, s.port, rfl⟩

theorem State.applyPaint_frame (v : Value) :
    ∃ cells save c, s.applyPaint v = { s with
      store := { s.store with cells := cells }
      overlay := { s.overlay with save := save }, control := { s.control with running := c } } := by
  unfold State.applyPaint
  split
  · dsimp only
    obtain ⟨_, _, h⟩ := State.writeBaseAll_frame s _
    obtain ⟨_, h1⟩ := State.bumpIf_frame (State.bump _ 40 1) _ 42
    obtain ⟨_, h2⟩ := State.bumpIf_frame _ _ 44
    rw [h2, h1, h]
    exact ⟨_, _, _, rfl⟩
  · exact ⟨s.store.cells, s.overlay.save, _, rfl⟩

theorem State.applyRestyle_frame :
    ∃ cells save, s.applyRestyle = { s with
      store := { s.store with cells := cells }, overlay := { s.overlay with save := save } } := by
  unfold State.applyRestyle
  split
  · exact s.writeBaseAll_frame _
  · exact ⟨s.store.cells, s.overlay.save, rfl⟩

/-! ## Field table -/

theorem State.applyMatch_frame (n sender : Nat) (v : Value) :
    ∃ f m, s.applyMatch n sender v = { s with fields := f, control := { s.control with running := m } } := by
  unfold State.applyMatch
  dsimp only
  (repeat' split) <;> exact ⟨_, _, rfl⟩

theorem State.inFreeOrder_perm (ns : List Nat) : (s.inFreeOrder ns).Perm ns :=
  List.perm_insertionSort _ _

theorem State.applyItem_frame (sender instrument : Nat) (it : Item) :
    ∃ f m k, s.applyItem sender instrument it =
      { s with fields := f, control := { s.control with running := m }, freeCount := k } := by
  have fold : ∀ (ns : List Nat) (t : State),
      ∃ f m, ns.foldl (fun acc n => acc.applyMatch n sender it.value) t =
        { t with fields := f, control := { t.control with running := m } } := by
    intro ns
    induction ns with
    | nil => exact fun t => ⟨t.fields, t.control.running, rfl⟩
    | cons n ns ih =>
      intro t
      obtain ⟨_, _, h⟩ := t.applyMatch_frame n sender it.value
      obtain ⟨f, m, h'⟩ := ih (t.applyMatch n sender it.value)
      exact ⟨f, m, by rw [List.foldl_cons, h', h]⟩
  unfold State.applyItem
  split
  · exact ⟨s.fields, _, s.freeCount, rfl⟩
  · obtain ⟨f, m, h⟩ := fold (s.inFreeOrder (_ :: _)) { s with freeCount := s.freeCount + 1 }
    exact ⟨f, m, _, h⟩

theorem State.applyItems_frame (sender instrument : Nat) (items : List Item) :
    ∃ f m k, s.applyItems sender instrument items =
      { s with fields := f, control := { s.control with running := m }, freeCount := k } := by
  induction items generalizing s with
  | nil => exact ⟨s.fields, s.control.running, s.freeCount, rfl⟩
  | cons it items ih =>
    obtain ⟨_, _, _, h⟩ := s.applyItem_frame sender instrument it
    obtain ⟨f, m, k, h'⟩ := ih (s.applyItem sender instrument it)
    exact ⟨f, m, k, by
      rw [show s.applyItems sender instrument (it :: items) =
        (s.applyItem sender instrument it).applyItems sender instrument items from rfl, h', h]⟩

theorem State.carryBind_frame (op : BindOp) (kind : FormatKind) (rule : ColourRule) :
    ∃ m o t h, s.carryBind op kind rule = { s with
      fields := { s.fields with slots := m }, store := { s.store with owner := o }, text := t
      port := h } := by
  unfold State.carryBind
  obtain ⟨h, e⟩ := State.present_frame _ (w := .text) (by decide)
  exact ⟨_, _, _, h, e⟩

/-- One LAYOUT operation touches the slots, the owner map, the text writer, the paint unit and the
port. -/
theorem State.layoutOp_frame (op : LayoutOp) :
    ∃ m o t q h, (s.layoutOp op).1 = { s with
      fields := { s.fields with slots := m }, store := { s.store with owner := o }, text := t, paint := q
      port := h } := by
  have same : ∃ m o t q h, s = { s with
      fields := { s.fields with slots := m }, store := { s.store with owner := o }, text := t, paint := q
      port := h } :=
    ⟨s.fields.slots, s.store.owner, s.text, s.paint, s.port, rfl⟩
  cases op with
  | bind b =>
    simp only [State.layoutOp]
    split
    · obtain ⟨m, o, t, h, e⟩ := s.carryBind_frame b _ _
      exact ⟨m, o, t, s.paint, h, e⟩
    · exact same
  | unbind n =>
    simp only [State.layoutOp]
    split
    · exact ⟨_, _, s.text, s.paint, s.port, rfl⟩
    · exact same
  | level n prio =>
    simp only [State.layoutOp]
    (repeat' split) <;> first
      | exact same
      | (obtain ⟨m, q, h, e⟩ := State.paintTake_frame (s.setSlot n { s.slot n with priority := prio })
         exact ⟨m, s.store.owner, s.text, q, h, e⟩)

theorem State.layoutAdvance_frame (job : LayoutJob) :
    ∃ d q a b m, s.layoutAdvance job = { s with
      hand := d, tx := q, portA := a, portB := b, control := { s.control with running := m } } := by
  unfold State.layoutAdvance
  split
  · obtain ⟨q, a, b, m, e⟩ := State.queueReply_frame { s with hand := .idle } job.sender kindLayout
      job.seq (layoutCode job.results) (layoutData job.results)
    exact ⟨_, q, a, b, m, e⟩
  · exact ⟨_, s.tx, s.portA, s.portB, s.control.running, rfl⟩

theorem State.layoutTake_frame (job : LayoutJob) :
    ∃ d q a b m sl o t p h, s.layoutTake job = { s with
      hand := d, tx := q, portA := a, portB := b, control := { s.control with running := m }
      fields := { s.fields with slots := sl }, store := { s.store with owner := o }, text := t, paint := p
      port := h } := by
  unfold State.layoutTake
  split
  · obtain ⟨d, q, a, b, m, e⟩ := s.layoutAdvance_frame job
    exact ⟨d, q, a, b, m, s.fields.slots, s.store.owner, s.text, s.paint, s.port, e⟩
  · dsimp only
    obtain ⟨sl, o, t, p, h, e⟩ := s.layoutOp_frame ‹LayoutOp›
    split
    · exact ⟨_, s.tx, s.portA, s.portB, s.control.running, sl, o, t, p, h, by rw [e]⟩
    · obtain ⟨d, q, a, b, m, e'⟩ := State.layoutAdvance_frame (s.layoutOp ‹LayoutOp›).1 _
      exact ⟨d, q, a, b, m, sl, o, t, p, h, by rw [e', e]⟩

theorem State.fieldWarmReset_frame :
    ∃ m, s.fieldWarmReset = { s with fields := { s.fields with slots := m } } := by
  unfold State.fieldWarmReset
  dsimp only
  split <;> exact ⟨_, rfl⟩

/-! ## Overlay unit -/

theorem State.closeTop_frame :
    ∃ l u c v, s.closeTop = { s with
      overlay := { s.overlay with levels := l, used := u }
      store := { s.store with cells := c, cover := v } } := by
  unfold State.closeTop
  split
  · exact ⟨s.overlay.levels, s.overlay.used, s.store.cells, s.store.cover, rfl⟩
  · exact ⟨_, _, _, _, rfl⟩

theorem State.closeTops_frame (n : Nat) :
    ∃ l u c v, State.closeTops n s = { s with
      overlay := { s.overlay with levels := l, used := u }
      store := { s.store with cells := c, cover := v } } := by
  induction n generalizing s with
  | zero => exact ⟨s.overlay.levels, s.overlay.used, s.store.cells, s.store.cover, rfl⟩
  | succ n ih =>
    obtain ⟨_, _, _, _, e⟩ := s.closeTop_frame
    obtain ⟨l, u, c, v, e'⟩ := ih s.closeTop
    exact ⟨l, u, c, v, by rw [State.closeTops, e', e]⟩

theorem State.applyOrphan_frame :
    ∃ l u c v, s.applyOrphan = { s with
      overlay := { s.overlay with levels := l, used := u }
      store := { s.store with cells := c, cover := v } } := by
  unfold State.applyOrphan
  split
  · exact s.closeTops_frame _
  · exact ⟨s.overlay.levels, s.overlay.used, s.store.cells, s.store.cover, rfl⟩

theorem State.orphanCheck_frame :
    ∃ r h, s.orphanCheck = { s with
      overlay := { s.overlay with request := r }, port := h } := by
  unfold State.orphanCheck
  split
  · obtain ⟨h, e⟩ := State.present_frame { s with overlay := { s.overlay with request := some .orphan } }
      (w := .overlay) (by decide)
    exact ⟨_, h, e⟩
  · exact ⟨s.overlay.request, s.port, rfl⟩

theorem State.takeOverlay_frame (f : RxFrame) :
    ∃ d r h q a b m, s.takeOverlay f = { s with
      hand := d, overlay := { s.overlay with request := r }, port := h
      tx := q, portA := a, portB := b, control := { s.control with running := m } } := by
  have reply : ∀ op level code, ∃ d r h q a b m, s.overlayReply f.sender f.seq op level code = { s with
      hand := d, overlay := { s.overlay with request := r }, port := h
      tx := q, portA := a, portB := b, control := { s.control with running := m } } := by
    intro op level code
    obtain ⟨q, a, b, m, e⟩ := s.queueReply_frame f.sender kindOverlay f.seq code (s.overlayData op level)
    exact ⟨s.hand, s.overlay.request, s.port, q, a, b, m, e⟩
  have unit : ∀ req, ∃ d r h q a b m, s.presentOverlay req f.sender f.seq = { s with
      hand := d, overlay := { s.overlay with request := r }, port := h
      tx := q, portA := a, portB := b, control := { s.control with running := m } } := by
    intro req
    obtain ⟨h, e⟩ := State.present_frame { s with
      overlay := { s.overlay with request := some req }, hand := .overlayUnit f.sender f.seq } (w := .overlay) (by decide)
    exact ⟨_, _, h, s.tx, s.portA, s.portB, s.control.running, e⟩
  unfold State.takeOverlay
  split
  · exact ⟨s.hand, s.overlay.request, s.port, s.tx, s.portA, s.portB, _, rfl⟩
  · unfold State.judgeOverlay
    dsimp only
    (repeat' split) <;> first | exact unit _ | exact reply _ _ _

/-! ## Group timer and crawl engine -/

theorem State.elect_frame :
    ∃ t r, s.elect = { s with group := { s.group with timing := t, reference := r } } := by
  unfold State.elect
  split <;> exact ⟨_, _, rfl⟩

theorem State.needRepaint_frame :
    ∃ r m h, s.needRepaint = { s with
      crawl := { s.crawl with request := r, repeatMark := m }, port := h } := by
  unfold State.needRepaint
  (repeat' split)
  · exact ⟨s.crawl.request, s.crawl.repeatMark, s.port, rfl⟩
  · obtain ⟨h, e⟩ := State.present_frame { s with crawl := { s.crawl with request := true } }
      (w := .crawl) (by decide)
    exact ⟨_, s.crawl.repeatMark, h, e⟩
  · exact ⟨s.crawl.request, true, s.port, rfl⟩
  · exact ⟨s.crawl.request, s.crawl.repeatMark, s.port, rfl⟩

theorem State.stepCrawl_frame :
    ∃ t r m h, s.stepCrawl = { s with
      crawl := { s.crawl with p := s.crawl.p + 1, tape := t, request := r, repeatMark := m }
      port := h } := by
  unfold State.stepCrawl
  obtain ⟨r, m, h, e⟩ := State.needRepaint_frame _
  exact ⟨_, r, m, h, e⟩

theorem State.takeTick_frame :
    ∃ c h, s.takeTick = { s with crawl := c, port := h } := by
  unfold State.takeTick
  split
  · obtain ⟨t, r, m, h, e⟩ := State.stepCrawl_frame { s with crawl := { s.crawl with tickDue := false } }
    exact ⟨_, h, e⟩
  · exact ⟨s.crawl, s.port, rfl⟩

theorem State.adoptP_frame (p : BitVec 16) :
    ∃ c h, s.adoptP p = { s with crawl := c, port := h } := by
  unfold State.adoptP
  split
  · exact ⟨s.crawl, s.port, rfl⟩
  · obtain ⟨r, m, h, e⟩ := State.needRepaint_frame _
    exact ⟨_, h, e⟩

theorem State.placeFrom_frame (c : CrawlText) (j : Nat) (gs : List Byte) :
    ∃ t m, State.placeFrom c j gs s = { s with
      crawl := { s.crawl with tape := t }, control := { s.control with running := m } } := by
  induction gs generalizing s j with
  | nil => exact ⟨s.crawl.tape, s.control.running, rfl⟩
  | cons g gs ih =>
    obtain ⟨_, _, e⟩ : ∃ t m, s.placeGlyph c j g = { s with
        crawl := { s.crawl with tape := t }, control := { s.control with running := m } } := by
      unfold State.placeGlyph
      dsimp only
      split
      · exact ⟨_, s.control.running, rfl⟩
      · exact ⟨s.crawl.tape, _, rfl⟩
    obtain ⟨t, m, e'⟩ := ih (s.placeGlyph c j g) (j + 1)
    exact ⟨t, m, by rw [State.placeFrom, e', e]⟩

theorem State.sendBeacon_frame :
    ∃ c h g q a b, s.sendBeacon = { s with
      crawl := c, port := h, group := { s.group with countdown := g }
      tx := q, portA := a, portB := b } := by
  unfold State.sendBeacon
  split
  · dsimp only
    obtain ⟨c, h, e⟩ := s.takeTick_frame
    obtain ⟨q, a, b, e'⟩ := State.queueBeacon_frame { s.takeTick with
      group := { s.takeTick.group with countdown := s.takeTick.control.config.interval } }
      s.takeTick.beaconPayload
    exact ⟨c, h, _, q, a, b, by rw [e', e]⟩
  · exact ⟨s.crawl, s.port, s.group.countdown, s.tx, s.portA, s.portB, rfl⟩

/-! ## Peers -/

theorem State.deliverReturn_frame (p : Nat) :
    ∃ m o h, s.deliverReturn p = { s with
      fields := { s.fields with slots := m }, paint := o, port := h } := by
  obtain ⟨m, o, h, e⟩ := State.paintTake_frame (s.mapSlots (Slot.onReturn p))
  exact ⟨m, o, h, e⟩

theorem State.deliverSilence_frame (p : Nat) :
    ∃ e m o r h k, s.deliverSilence p = { s with
      peers := e, fields := { s.fields with slots := m }, paint := o
      overlay := { s.overlay with request := r }, port := h, freeCount := k } := by
  unfold State.deliverSilence
  dsimp only
  split
  · generalize hs : (s.setPeer p { s.peer p with silenceDue := false }).mapSlots (Slot.onSilence p) = s1
    have h1 : ∃ e m, s1 = { s with peers := e, fields := { s.fields with slots := m } } := ⟨_, _, hs.symm⟩
    obtain ⟨e, m, h1⟩ := h1
    rcases s1.inEitherOrder_frame State.paintTake State.orphanCheck with h | h <;> rw [h]
    · obtain ⟨m, o, h, e1⟩ := State.paintTake_frame { s1 with freeCount := s1.freeCount + 1 }
      obtain ⟨r, h', e2⟩ := State.orphanCheck_frame (State.paintTake { s1 with freeCount := s1.freeCount + 1 })
      exact ⟨e, m, o, r, h', _, by rw [e2, e1, h1]⟩
    · obtain ⟨r, h', e1⟩ := State.orphanCheck_frame { s1 with freeCount := s1.freeCount + 1 }
      obtain ⟨m, o, h, e2⟩ := State.paintTake_frame (State.orphanCheck { s1 with freeCount := s1.freeCount + 1 })
      exact ⟨e, m, o, r, h, _, by rw [e2, e1, h1]⟩
  · exact ⟨s.peers, s.fields.slots, s.paint, s.overlay.request, s.port, s.freeCount, rfl⟩

theorem State.deliverLapse_frame (p : Nat) :
    ∃ e t r, s.deliverLapse p = { s with
      peers := e, group := { s.group with timing := t, reference := r } } := by
  unfold State.deliverLapse
  dsimp only
  split
  · obtain ⟨t, r, e⟩ := State.elect_frame (s.setPeer p { s.peer p with lapseDue := false })
    exact ⟨_, t, r, e⟩
  · exact ⟨s.peers, s.group.timing, s.group.reference, rfl⟩

theorem State.acceptFrame_frame (f : RxFrame) :
    ∃ e m o r h c t g k, (s.acceptFrame f).1 = { s with
      peers := e, fields := { s.fields with slots := m }, paint := o
      overlay := { s.overlay with request := r }, port := h
      control := { s.control with running := c }
      group := { s.group with timing := t, reference := g }, freeCount := k } := by
  obtain ⟨e, m, o, r, h, k, e0⟩ := s.deliverSilence_frame f.sender
  unfold State.acceptFrame
  dsimp only
  split
  · generalize PeerEntry.judge _ _ _ = v
    obtain ⟨c1, e1⟩ := State.bumpIf_frame ((s.deliverSilence f.sender).setPeer f.sender v.entry) v.restartRun 34
    obtain ⟨c2, e2⟩ := State.bumpIf_frame
      (((s.deliverSilence f.sender).setPeer f.sender v.entry).bumpIf v.restartRun 34) v.resync 33
    generalize hs1 : (((s.deliverSilence f.sender).setPeer f.sender v.entry).bumpIf v.restartRun 34).bumpIf
      v.resync 33 = s1 at e2 ⊢
    have h1 : ∃ e c, s1 = { s with
        peers := e, fields := { s.fields with slots := m }, paint := o
        overlay := { s.overlay with request := r }, port := h
        control := { s.control with running := c }, freeCount := k } := ⟨_, _, by rw [e2, e1, e0]; rfl⟩
    obtain ⟨e', c', h1⟩ := h1
    have h2 : ∃ m o h, (if ((s.deliverSilence f.sender).peer f.sender |>.heardOn f.lane).isLive = true then s1
        else s1.deliverReturn f.sender) = { s1 with
          fields := { s1.fields with slots := m }, paint := o, port := h } := by
      split
      · exact ⟨s1.fields.slots, s1.paint, s1.port, rfl⟩
      · exact s1.deliverReturn_frame _
    obtain ⟨m2, o2, h2', h2⟩ := h2
    rw [h2]
    split
    · obtain ⟨t, g, e3⟩ := State.elect_frame (State.setPeer { s1 with
        fields := { s1.fields with slots := m2 }, paint := o2, port := h2' }
        f.sender (v.entry.onBeacon f.group))
      exact ⟨_, m2, o2, r, h2', c', t, g, k, by rw [e3, h1]; rfl⟩
    · exact ⟨e', m2, o2, r, h2', c', s.group.timing, s.group.reference, k, by rw [h1]⟩
  · exact ⟨_, m, o, r, h, _, s.group.timing, s.group.reference, k, by rw [e0]; rfl⟩

/-- Steps 1 to 3 of the dispatcher touch the peer table, the field table and paint unit (return and
silence), the overlay request, the port, the counters, the clash latch, the election and the free draws. -/
theorem State.intake_frame (f : RxFrame) :
    ∃ e m o r h c l t g k, (s.intake f).1 = { s with
      peers := e, fields := { s.fields with slots := m }, paint := o
      overlay := { s.overlay with request := r }, port := h
      control := { s.control with running := c, clash := l }
      group := { s.group with timing := t, reference := g }, freeCount := k } := by
  unfold State.intake
  split
  · exact ⟨s.peers, s.fields.slots, s.paint, s.overlay.request, s.port, _, true, s.group.timing,
      s.group.reference, s.freeCount, rfl⟩
  · obtain ⟨e, m, o, r, h, c, t, g, k, e0⟩ := s.acceptFrame_frame f
    exact ⟨e, m, o, r, h, c, s.control.clash, t, g, k, e0⟩

end Sys2Proof.Machine
end

