-- ==== Sys2Proof/Laws/Arbiter.lean ====
section
/-!
SUPPORT. The arbiter (R101): what the end of a unit leaves to the writers that wait.
-/
namespace Sys2Proof.Machine

variable (s : State)

/-- The next writer by the table of R101. -/
theorem State.nextWaiting_eq :
    s.nextWaiting = grantOrder s.overlay.request.isSome s.crawl.request s.paint.isSome s.text.isSome := by
  unfold State.nextWaiting grantOrder
  cases h1 : s.overlay.request.isSome <;> cases h2 : s.crawl.request <;> cases h3 : s.paint.isSome <;>
    cases h4 : s.text.isSome <;> simp [State.outstanding, h1, h2, h3, h4]

/-- Outside HELD the end of a unit passes the port on to the next writer (R101). -/
theorem State.release_eq_portPassed (h : s.control.mode ≠ .held) :
    s.release =
      s.portPassed (grantOrder s.overlay.request.isSome s.crawl.request s.paint.isSome s.text.isSome) := by
  rw [← State.nextWaiting_eq]
  unfold State.release State.portPassed
  exact (if_neg h).trans (by cases s.nextWaiting <;> rfl)

/-- In HELD no grant is made (R152). -/
theorem State.release_held (h : s.control.mode = .held) :
    s.release = { s with port := { holder := none, decided := .standing } } := by
  unfold State.release
  simp only [h, if_true]

end Sys2Proof.Machine
end

