-- ==== Sys2Proof/Laws/BaseLayer.lean ====
section
/-!
SUPPORT. The base layer (R103, R120): under the laws of the overlay stack no two covered cells share a save record,
so that a base-layer write is read back at its cell and nowhere else.
-/
namespace Sys2Proof.Machine

/-! ## Save records -/

theorem savedLength_append (a b : List Level) : savedLength (a ++ b) = savedLength a + savedLength b := by
  simp [savedLength]

/-- The save space of a level ends before that of any level above it. -/
theorem savedLength_take_lt {levels : List Level} {j k : Nat} {lv : Level} (h : levels[j]? = some lv)
    (hjk : j < k) : savedLength (levels.take j) + lv.length ≤ savedLength (levels.take k) := by
  induction levels generalizing j k with
  | nil => simp at h
  | cons l ls ih =>
    cases k with
    | zero => omega
    | succ k =>
      cases j with
      | zero =>
        simp only [List.getElem?_cons_zero, Option.some.injEq] at h
        subst h
        simp [savedLength]
      | succ j =>
        have := ih (j := j) (k := k) (by simpa using h) (by omega)
        simp only [List.take_succ_cons, savedLength, List.map_cons, List.sum_cons] at this ⊢
        omega

/-- The save record of a cell of a level's rectangle lies within the level's save space. -/
theorem Level.recordOf_lt {lv : Level} {i : Nat} (hc : lv.contains i) (hl : lv.length = lv.height * lv.width) :
    lv.offset ≤ lv.recordOf i ∧ lv.recordOf i < lv.offset + lv.length := by
  obtain ⟨h1, h2, h3, h4⟩ := hc
  have hy : (i / 128 - lv.top + 1) * lv.width ≤ lv.height * lv.width := Nat.mul_le_mul_right _ (by omega)
  rw [Nat.add_mul] at hy
  simp only [Level.recordOf]
  omega

/-- Two cells of one rectangle have two records. -/
theorem Level.recordOf_inj {lv : Level} {i j : Nat} (hi : lv.contains i) (hj : lv.contains j)
    (h : lv.recordOf i = lv.recordOf j) : i = j := by
  obtain ⟨a1, a2, a3, a4⟩ := hi
  obtain ⟨b1, b2, b3, b4⟩ := hj
  have e : (i / 128 - lv.top) * lv.width + (i % 128 - lv.left) =
      (j / 128 - lv.top) * lv.width + (j % 128 - lv.left) := by simp only [Level.recordOf] at h; omega
  have hx : i % 128 - lv.left < lv.width := by omega
  have hy : j % 128 - lv.left < lv.width := by omega
  have hw : 0 < lv.width := by omega
  have q : i / 128 - lv.top = j / 128 - lv.top := by
    have := congrArg (· / lv.width) e
    simpa [Nat.mul_comm _ lv.width, Nat.mul_add_div hw, Nat.div_eq_of_lt hx, Nat.div_eq_of_lt hy] using this
  rw [q] at e
  omega

variable {s : State}

/-- A covered cell has a save record of the level that covers it. -/
theorem State.OverlayLaw.saveKey (h : s.OverlayLaw) {i k : Nat} (hc : s.coverOf i = k + 1) :
    ∃ lv, s.overlay.levels[k]? = some lv ∧ lv.contains i ∧ s.saveKey i = some (lv.recordOf i) := by
  obtain ⟨⟨lv, hk, hi⟩, -⟩ := h.covered i k hc
  exact ⟨lv, hk, hi, by simp [State.saveKey, hc, hk]⟩

/-- No two cells share a save record. -/
theorem State.OverlayLaw.saveKey_inj (h : s.OverlayLaw) {i j r : Nat} (hi : s.saveKey i = some r)
    (hj : s.saveKey j = some r) : i = j := by
  have cover : ∀ i, s.saveKey i = some r → ∃ k, s.coverOf i = k + 1 := by
    intro i hi
    cases hc : s.coverOf i with
    | zero => simp [State.saveKey, hc] at hi
    | succ k => exact ⟨k, rfl⟩
  obtain ⟨k, hk⟩ := cover i hi
  obtain ⟨l, hl⟩ := cover j hj
  obtain ⟨a, ha, hai, ea⟩ := h.saveKey hk
  obtain ⟨b, hb, hbj, eb⟩ := h.saveKey hl
  have ra : a.recordOf i = r := by rw [ea] at hi; simpa using hi
  have rb : b.recordOf j = r := by rw [eb] at hj; simpa using hj
  obtain ⟨-, -, -, -, la, oa⟩ := h.level k a ha
  obtain ⟨-, -, -, -, lb, ob⟩ := h.level l b hb
  have ba := Level.recordOf_lt hai la
  have bb := Level.recordOf_lt hbj lb
  rcases Nat.lt_trichotomy k l with hkl | hkl | hkl
  · have := savedLength_take_lt ha hkl
    omega
  · subst hkl
    rw [ha] at hb
    cases hb
    exact Level.recordOf_inj hai hbj (ra.trans rb.symm)
  · have := savedLength_take_lt hb hkl
    omega

/-! ## Base-layer writes -/

@[simp] theorem State.writeBase_saveKey (i j : Nat) (c : Cell) : (s.writeBase i c).saveKey j = s.saveKey j := by
  obtain ⟨_, _, e⟩ := s.writeBase_frame i c
  rw [e]
  rfl

theorem State.writeBaseAll_saveKey (ps : List (Nat × Cell)) (j : Nat) :
    (s.writeBaseAll ps).saveKey j = s.saveKey j := by
  obtain ⟨_, _, e⟩ := s.writeBaseAll_frame ps
  rw [e]
  rfl

/-- One base-layer write, read back. -/
theorem State.baseCell_writeBase (h : ∀ i j r, s.saveKey i = some r → s.saveKey j = some r → i = j)
    (i j : Nat) (c : Cell) : (s.writeBase i c).baseCell j = if j = i then c else s.baseCell j := by
  unfold State.baseCell
  rw [State.writeBase_saveKey]
  unfold State.writeBase
  cases hi : s.saveKey i with
  | none =>
    cases hj : s.saveKey j with
    | none => exact State.cell_setCell s i j c
    | some r =>
      have : j ≠ i := fun e => by rw [e, hi] at hj; cases hj
      simp only [this, if_false]
      rfl
  | some q =>
    cases hj : s.saveKey j with
    | none =>
      have : j ≠ i := fun e => by rw [e, hi] at hj; cases hj
      simp only [this, if_false]
      rfl
    | some r =>
      dsimp only
      rw [State.saved_setSaved]
      by_cases e : j = i
      · subst e
        rw [hi] at hj
        cases hj
        simp
      · have : r ≠ q := fun x => e (h j i r hj (x ▸ hi))
        simp [e, this]

/-- Base-layer writes to a list of cells, read back. -/
theorem State.baseCell_writeBaseAll (h : ∀ i j r, s.saveKey i = some r → s.saveKey j = some r → i = j)
    (cells : List Nat) (new : Nat → Cell) (j : Nat) :
    (s.writeBaseAll (cells.map (fun i => (i, new i)))).baseCell j =
      if j ∈ cells then new j else s.baseCell j := by
  induction cells generalizing s with
  | nil => simp [State.writeBaseAll]
  | cons i cells ih =>
    have e : s.writeBaseAll ((i :: cells).map (fun i => (i, new i))) =
        (s.writeBase i (new i)).writeBaseAll (cells.map (fun i => (i, new i))) := rfl
    rw [e, ih (by simpa using h), State.baseCell_writeBase h]
    by_cases hj : j ∈ cells
    · simp [hj]
    · by_cases hi : j = i
      · simp [hi]
      · simp [hj, hi]

/-- A base-layer write changes no covered cell on the screen. -/
theorem State.cell_writeBaseAll_covered (ps : List (Nat × Cell)) {j r : Nat} (hj : s.saveKey j = some r) :
    (s.writeBaseAll ps).cell j = s.cell j := by
  induction ps generalizing s with
  | nil => rfl
  | cons e ps ih =>
    have step : s.writeBaseAll (e :: ps) = (s.writeBase e.1 e.2).writeBaseAll ps := rfl
    rw [step, ih (by simpa using hj)]
    unfold State.writeBase
    cases hi : s.saveKey e.1 with
    | none =>
      have : j ≠ e.1 := fun x => by rw [x, hi] at hj; cases hj
      exact (State.cell_setCell s e.1 j e.2).trans (by simp [this])
    | some q => rfl

/-- A base-layer write changes no save record but those of the cells written. -/
theorem State.saved_writeBaseAll_other (ps : List (Nat × Cell)) {j : Nat}
    (h : ∀ e ∈ ps, s.saveKey e.1 ≠ some j) : (s.writeBaseAll ps).saved j = s.saved j := by
  induction ps generalizing s with
  | nil => rfl
  | cons e ps ih =>
    have step : s.writeBaseAll (e :: ps) = (s.writeBase e.1 e.2).writeBaseAll ps := rfl
    rw [step, ih (fun x hx => by simpa using h x (List.mem_cons_of_mem _ hx))]
    have he := h e List.mem_cons_self
    unfold State.writeBase
    cases hi : s.saveKey e.1 with
    | none => rfl
    | some q =>
      have : j ≠ q := fun x => he (x ▸ hi)
      exact (State.saved_setSaved s q j e.2).trans (by simp [this])

/-- The base-layer writes of one unit, all of them at once. -/
theorem State.paintsBase_writeBaseAll (h : s.OverlayLaw) (cells : List Nat) (new : Nat → Cell) :
    s.paintsBase (s.writeBaseAll (cells.map (fun i => (i, new i)))) cells new := by
  have inj := fun i j r hi hj => h.saveKey_inj (i := i) (j := j) (r := r) hi hj
  obtain ⟨_, _, e⟩ := s.writeBaseAll_frame (cells.map (fun i => (i, new i)))
  refine ⟨by rw [e], by rw [e], fun i hi => ?_, fun i hi => ?_, fun i hi => ?_, fun j hj => ?_⟩
  · rw [State.baseCell_writeBaseAll inj]
    simp [hi]
  · rw [State.baseCell_writeBaseAll inj]
    simp [hi]
  · cases hc : s.coverOf i with
    | zero => exact absurd hc hi
    | succ k =>
      obtain ⟨_, _, _, hs⟩ := h.saveKey hc
      exact State.cell_writeBaseAll_covered _ hs
  · refine State.saved_writeBaseAll_other _ fun x hx => ?_
    obtain ⟨i, hi, rfl⟩ := List.mem_map.mp hx
    exact hj i hi

end Sys2Proof.Machine
end

