-- ==== Sys2Proof/Laws/Counters.lean ====
section
/-!
SUPPORT. How the running counters rise: the increases of several counted events add up, each counter held at
the top (R6, R148).
-/
namespace Sys2Proof.Machine

@[simp] theorem amountFor_nil (n : Nat) : amountFor [] n = 0 := rfl

@[simp] theorem amountFor_cons (c a : Nat) (l : List (Nat × Nat)) (n : Nat) :
    amountFor ((c, a) :: l) n = (if c = n then a else 0) + amountFor l n := by
  by_cases h : c = n <;> simp [amountFor, h]

@[simp] theorem amountFor_append (l m : List (Nat × Nat)) (n : Nat) :
    amountFor (l ++ m) n = amountFor l n + amountFor m n := by
  simp [amountFor]

/-- Only the running bank decides how the counters rise. -/
theorem State.risesTo_congr {s t u : State} {l m : List (Nat × Nat)} (h : s.risesTo t l)
    (ht : u.control.running = t.control.running) (hl : ∀ n, amountFor m n = amountFor l n) :
    s.risesTo u m := by
  intro n
  rw [hl, ← h n]
  simp [State.counter, ht]

theorem State.risesTo_refl {s : State} (h : ∀ n, s.counter n ≤ Config.counterTop) : s.risesTo s [] := by
  intro n
  have := h n
  simp only [amountFor_nil]
  omega

theorem State.risesTo_bump {s t : State} {l : List (Nat × Nat)} (h : s.risesTo t l) (c a : Nat) :
    s.risesTo (t.bump c a) (l ++ [(c, a)]) := by
  intro n
  have hn := h n
  have hc := h c
  rw [State.counter_bump]
  by_cases e : n = c
  · subst e
    simp only [if_true, amountFor_append, amountFor_cons, amountFor_nil]
    omega
  · have e' : ¬ c = n := fun x => e x.symm
    simp only [e, e', if_false, amountFor_append, amountFor_cons, amountFor_nil]
    omega

theorem State.risesTo_bumpIf {s t : State} {l : List (Nat × Nat)} (h : s.risesTo t l) (b : Bool) (c : Nat) :
    s.risesTo (t.bumpIf b c) (l ++ if b then [(c, 1)] else []) := by
  cases b
  · exact State.risesTo_congr h rfl (by simp)
  · exact State.risesTo_bump h c 1

end Sys2Proof.Machine
end

