-- ==== Sys2Proof/Laws/Dispatch.lean ====
section
/-!
SUPPORT. How the dispatcher's rows take a frame: what a ready dispatcher answers for the oldest frame of the
queue, whichever row takes it (R8, R20).
-/
namespace Sys2Proof.Machine

variable {s u : State} {f : RxFrame} {rest : List RxFrame}

/-- What step 4 gets when a ready dispatcher takes the frame. -/
theorem State.dispatch_ready (h : s.readyFor f rest) (takes : RxFrame → Bool) (ht : takes f = true)
    (handler : RxFrame → State → State) :
    s.dispatch takes handler =
      if (({ s with frameQueue := rest } : State).intake f).2
      then handler f (({ s with frameQueue := rest } : State).intake f).1
      else (({ s with frameQueue := rest } : State).intake f).1 := by
  obtain ⟨h1, h2, h3⟩ := h
  simp [State.dispatch, State.isRunning, h1, h2, h3, ht]

/-- A frame that reaches step 4 is handed to the row's handler. -/
theorem State.dispatch_reaches (h : s.reaches f u) (takes : RxFrame → Bool) (ht : takes f = true)
    (handler : RxFrame → State → State) : s.dispatch takes handler = handler f u := by
  obtain ⟨rest, hr, ha⟩ := h
  rw [State.dispatch_ready hr takes ht handler, ha]
  rfl

/-- With no frame in its hand, every row of the dispatcher takes its frames in the same way. -/
theorem exec_row_dispatch (h : s.hand = .idle) (c : Instr) (takes : RxFrame → Bool)
    (hc : rowTakes c = some takes) :
    ∃ handler : RxFrame → State → State, exec c s = .next (s.dispatch takes handler) := by
  have layout : ∀ code, s.layoutRow code = s.dispatch (takesLayout code) takeLayout := by
    intro code; simp [State.layoutRow, h]
  have overlay : ∀ code, s.overlayRow code = s.dispatch (takesOverlay code) handOverlay := by
    intro code; simp [State.overlayRow, h]
  cases c <;> simp only [rowTakes, Option.some.injEq, reduceCtorEq] at hc <;> subst hc <;>
    first
    | exact ⟨_, rfl⟩
    | exact ⟨takeLayout, congrArg Host.Outcome.next (layout _)⟩
    | exact ⟨handOverlay, congrArg Host.Outcome.next (overlay _)⟩

/-- What a ready dispatcher answers for the oldest frame of the queue, whichever row takes it. -/
theorem exec_row (h : s.readyFor f rest) (c : Instr) (takes : RxFrame → Bool) (hc : rowTakes c = some takes)
    (ht : takes f = true) :
    ∃ handler : RxFrame → State → State, exec c s = .next
      (if (({ s with frameQueue := rest } : State).intake f).2
       then handler f (({ s with frameQueue := rest } : State).intake f).1
       else (({ s with frameQueue := rest } : State).intake f).1) := by
  obtain ⟨handler, e⟩ := exec_row_dispatch h.2.1 c takes hc
  exact ⟨handler, by rw [e, State.dispatch_ready h takes ht handler]⟩

end Sys2Proof.Machine
end

