-- ==== Sys2Proof/Laws/Line.lean ====
section
/-!
SUPPORT. The line (R162): through which bit-times carrier is held.
-/
namespace Sys2Proof.Machine

/-- No 2 bit-times pass without a transition exactly when no four half-levels in a row are alike. -/
theorem quietWithin_eq_false_iff (l : List Bool) : quietWithin l = false ↔
    ∀ i level, i + 4 ≤ l.length → ∃ j, i ≤ j ∧ j < i + 4 ∧ l[j]? ≠ some level := by
  induction l using quietWithin.induct with
  | case1 a b c d rest ih =>
    constructor
    · intro h i level hi
      simp only [quietWithin, Bool.or_eq_false_iff] at h
      match i with
      | 0 =>
        by_contra hn
        simp only [not_exists, not_and, not_not] at hn
        have h0 := hn 0 (by omega) (by omega)
        have h1 := hn 1 (by omega) (by omega)
        have h2 := hn 2 (by omega) (by omega)
        have h3 := hn 3 (by omega) (by omega)
        simp at h0 h1 h2 h3
        simp [h0, h1, h2, h3] at h
      | i + 1 =>
        obtain ⟨j, h1, h2, h3⟩ := ih.1 h.2 i level (by simp at hi ⊢; omega)
        exact ⟨j + 1, by omega, by omega, by simpa using h3⟩
    · intro h
      simp only [quietWithin, Bool.or_eq_false_iff]
      constructor
      · obtain ⟨j, -, h2, h3⟩ := h 0 a (by simp)
        clear h ih
        by_contra hn
        simp only [Bool.not_eq_false, Bool.and_eq_true, beq_iff_eq] at hn
        obtain ⟨⟨rfl, rfl⟩, rfl⟩ := hn
        match j, h2 with
        | 0, _ | 1, _ | 2, _ | 3, _ => exact h3 rfl
      · refine ih.2 fun i level hi => ?_
        obtain ⟨j, h1, h2, h3⟩ := h (i + 1) level (by simp at hi ⊢; omega)
        obtain ⟨k, rfl⟩ : ∃ k, j = k + 1 := ⟨j - 1, by omega⟩
        exact ⟨k, by omega, by omega, by simpa using h3⟩
  | case2 l hl =>
    have hshort : l.length < 4 := by
      match l, hl with
      | [], _ | [_], _ | [_, _], _ | [_, _, _], _ => simp
      | a :: b :: c :: d :: rest, hl => exact absurd rfl (hl a b c d rest)
    constructor
    · intro _ i level hi
      omega
    · intro _
      match l, hshort with
      | [], _ | [_], _ | [_, _], _ | [_, _, _], _ => rfl

/-- The last bit-time has a transition exactly when the last three half-levels are not alike. -/
theorem quietAtEnd_eq_false_iff (l : List Bool) : quietAtEnd l = false ↔
    ∀ level, 3 ≤ l.length → ∃ j, l.length ≤ j + 3 ∧ j < l.length ∧ l[j]? ≠ some level := by
  obtain ⟨r, rfl⟩ : ∃ r, l = r.reverse := ⟨l.reverse, by simp⟩
  match r with
  | [] | [_] | [_, _] => simp [quietAtEnd]
  | a :: b :: c :: rest =>
    have ha : (a :: b :: c :: rest).reverse[rest.length + 2]? = some a := by simp
    have hb : (a :: b :: c :: rest).reverse[rest.length + 1]? = some b := by simp
    have hc : (a :: b :: c :: rest).reverse[rest.length]? = some c := by simp
    simp only [quietAtEnd, List.reverse_reverse]
    constructor
    · intro h level _
      by_contra hn
      simp only [not_exists, not_and, not_not] at hn
      have h2 := hn (rest.length + 2) (by simp) (by simp)
      have h1 := hn (rest.length + 1) (by simp) (by simp)
      have h0 := hn rest.length (by simp) (by simp)
      rw [ha] at h2; rw [hb] at h1; rw [hc] at h0
      simp_all
    · intro h
      obtain ⟨j, h1, h2, h3⟩ := h a (by simp)
      simp only [List.length_reverse, List.length_cons] at h1 h2
      rcases (by omega : j = rest.length + 2 ∨ j = rest.length + 1 ∨ j = rest.length) with rfl | rfl | rfl
      · exact absurd ha h3
      · rw [hb] at h3; cases a <;> cases b <;> simp_all
      · rw [hc] at h3; cases a <;> cases b <;> cases c <;> simp_all

/-- Carrier is held through bit-times exactly when no four half-levels in a row are alike, and not the last three. -/
theorem carrierHeld_iff (times : List BitTime) (levels : List Bool)
    (h : levels = times.flatMap (fun b => [b.first, b.second])) :
    carrierHeld times = true ↔
      (∀ i level, i + 4 ≤ levels.length → ∃ j, i ≤ j ∧ j < i + 4 ∧ levels[j]? ≠ some level) ∧
      ∀ level, 3 ≤ levels.length → ∃ j, levels.length ≤ j + 3 ∧ j < levels.length ∧ levels[j]? ≠ some level := by
  subst h
  rw [← quietWithin_eq_false_iff, ← quietAtEnd_eq_false_iff]
  simp [carrierHeld, lineLevels]

end Sys2Proof.Machine
end

