-- ==== Sys2Proof/Laws/Scan.lean ====
section
/-!
SUPPORT. The scan engine (R109): what it reads while a write unit is applied, and that the cells it has read stay in
the one canonical form.
-/
namespace Sys2Proof.Machine

variable {β : Type} [DecidableEq β]

/-- A part of a canonical store is canonical. -/
theorem storeWf_filter (d : β) (p : Nat × β → Bool) (m : Store β) (h : storeWf d m = true) :
    storeWf d (m.filter p) = true := by
  obtain ⟨hr, hd⟩ := (storeWf_iff d m).1 h
  exact (storeWf_iff d _).2 ⟨keysRise_filter p m hr, fun e he => hd e (List.mem_of_mem_filter he)⟩

omit [DecidableEq β] in
/-- A part chosen by the keys reads as the store at the chosen keys, and as unlisted elsewhere. -/
theorem storeGet_filter_keys (d : β) (p : Nat → Bool) (m : Store β) (j : Nat) :
    storeGet d (m.filter (fun e => p e.1)) j = if p j then storeGet d m j else d := by
  induction m with
  | nil => simp
  | cons e m ih =>
    obtain ⟨k, v⟩ := e
    by_cases hk : k = j
    · subst hk
      cases hp : p k <;> simp [storeGet, hp, ih]
    · cases hp : p k <;> simp [storeGet, hp, hk, ih]

/-- Writing the entries of a canonical store over another: its listed keys read as in it, the others as before. -/
theorem storeGet_setAll_wf (d : β) (ps : Store β) (m : Store β) (j : Nat) (h : storeWf d ps = true) :
    storeGet d (storeSetAll d m ps) j = if storeGet d ps j = d then storeGet d m j else storeGet d ps j := by
  obtain ⟨hr, hd⟩ := (storeWf_iff d ps).1 h
  clear h
  revert hr
  generalize 0 = lo
  intro hr
  induction ps generalizing m lo with
  | nil => simp
  | cons e ps ih =>
    obtain ⟨k, v⟩ := e
    simp only [keysRise, Bool.and_eq_true, decide_eq_true_eq] at hr
    have hv : v ≠ d := hd (k, v) (List.mem_cons_self ..)
    rw [storeSetAll_cons]
    by_cases hk : k = j
    · subst hk
      rw [storeGet_setAll_other _ _ _ _ (fun e he => by have := keysRise_ge ps hr.2 e he; omega)]
      simp [storeGet, hv]
    · rw [ih _ (fun e he => hd e (List.mem_cons_of_mem _ he)) _ hr.2, storeGet_set_other _ _ _ (Ne.symm hk)]
      simp [storeGet, hk]

/-- Each key is written from the store that its place names, the stores standing from place `k` on. -/
theorem storeGet_setAll_stages (d : β) (reading : Nat → Bool) (seen : Nat → Nat) (j : Nat) (ms : List (Store β))
    (k : Nat) (m : Store β) (hw : ∀ l ∈ ms, storeWf d l = true) :
    storeGet d (storeSetAll d m ((ms.zipIdx k).flatMap
        (fun l => l.1.filter (fun e => reading e.1 && decide (seen e.1 = l.2))))) j =
      if reading j = true ∧ k ≤ seen j ∧ storeGet d (ms.getD (seen j - k) []) j ≠ d then
        storeGet d (ms.getD (seen j - k) []) j
      else storeGet d m j := by
  induction ms generalizing k m with
  | nil => simp
  | cons l ms ih =>
    have hl : storeWf d l = true := hw l (List.mem_cons_self ..)
    have hget := storeGet_setAll_wf d _ m j (storeWf_filter d (fun e => reading e.1 && decide (seen e.1 = k)) l hl)
    rw [storeGet_filter_keys d (fun i => reading i && decide (seen i = k)) l j] at hget
    simp only [List.zipIdx_cons, List.flatMap_cons, storeSetAll, List.foldl_append]
    simp only [← storeSetAll.eq_def]
    rw [ih (k + 1) _ (fun l' h => hw l' (List.mem_cons_of_mem _ h)), hget]
    cases hr : reading j
    · simp
    · rcases Nat.lt_trichotomy (seen j) k with h | h | h
      · simp [Nat.not_le.2 h, show ¬ k + 1 ≤ seen j by omega, show ¬ seen j = k by omega]
      · subst h
        by_cases hd : storeGet d l j = d <;> simp [hd]
      · have e : seen j - k = (seen j - (k + 1)) + 1 := by omega
        simp [show k ≤ seen j by omega, show k + 1 ≤ seen j by omega, show ¬ seen j = k by omega, e]

/-- What is read on while a unit is applied: the cells read before stay; each other cell up to `n` is read as it stands
in the stage that the free value names, the first being that before the unit; the rest is not read. -/
theorem State.readOn_get (s : State) (stages : List (Store Cell)) (n i : Nat)
    (hw : ∀ m ∈ s.store.cells :: stages, storeWf cellBlank m = true) :
    storeGet cellBlank (s.readOn stages n) i =
      if i < s.scan.read then storeGet cellBlank s.scan.frame i
      else if i < n then
        storeGet cellBlank ((s.store.cells :: stages).getD (Config.freeSeen s.freeCount i % (stages.length + 1)) []) i
      else cellBlank := by
  unfold State.readOn
  rw [storeGet_setAll_stages cellBlank (fun k => decide (s.scan.read ≤ k) && decide (k < n))
      (fun k => Config.freeSeen s.freeCount k % (stages.length + 1)) i _ 0 _ hw,
    storeGet_filter_keys cellBlank (fun k => decide (k < s.scan.read)) s.scan.frame i]
  by_cases h1 : i < s.scan.read
  · simp [h1, Nat.not_le.2 h1]
  · have h2 : s.scan.read ≤ i := Nat.not_lt.1 h1
    by_cases h3 : i < n
    · simp +contextual [h1, h2, h3]
    · simp [h1, h3]

/-- So each cell read on is one of the stages' cells. -/
theorem State.readOn_mem (s : State) (stages : List (Store Cell)) (n i : Nat)
    (hw : ∀ m ∈ s.store.cells :: stages, storeWf cellBlank m = true) (h : s.scan.read ≤ i) (hn : i < n) :
    ∃ m ∈ s.store.cells :: stages, storeGet cellBlank (s.readOn stages n) i = storeGet cellBlank m i := by
  rw [State.readOn_get s stages n i hw, if_neg (Nat.not_lt.2 h), if_pos hn]
  have hlt : Config.freeSeen s.freeCount i % (stages.length + 1) < (s.store.cells :: stages).length :=
    Nat.mod_lt _ (Nat.succ_pos _)
  exact ⟨_, List.getElem_mem hlt, by rw [List.getD_eq_getElem _ _ hlt]⟩

/-- The reading during a write unit keeps the form. -/
theorem State.readOn_wf (s : State) (stages : List (Store Cell)) (n : Nat) (h : storeWf cellBlank s.scan.frame = true) :
    storeWf cellBlank (s.readOn stages n) = true :=
  storeSetAll_wf _ _ _ (storeWf_filter _ _ _ h)

/-- The cells of a level's rectangle, one by one. -/
theorem Level.mem_cells (lv : Level) (i : Nat) :
    i ∈ lv.cells ↔ ∃ y x, y < lv.height ∧ x < lv.width ∧ i = cellKey (lv.top + y) (lv.left + x) := by
  simp only [Level.cells, List.mem_flatMap, List.mem_map, List.mem_range]
  exact ⟨fun ⟨y, hy, x, hx, e⟩ => ⟨y, x, hy, hx, e.symm⟩, fun ⟨y, x, hy, hx, e⟩ => ⟨y, hy, x, hx, e.symm⟩⟩

/-- Each stage of the closes is a canonical screen, and each of its cells is as before or as the close of one of the
closed levels restored it. -/
theorem State.closeStages_get (k : Nat) (s : State) (hw : storeWf cellBlank s.store.cells = true) (m : Store Cell)
    (h : m ∈ State.closeStages k s) : storeWf cellBlank m = true ∧
      ∀ i, storeGet cellBlank m i = s.cell i ∨
        ∃ lv ∈ s.overlay.levels.drop (s.overlay.levels.length - k), i ∈ lv.cells ∧
          storeGet cellBlank m i = s.saved (lv.recordOf i) := by
  induction k generalizing s with
  | zero => simp [State.closeStages] at h
  | succ k ih =>
    rcases List.eq_nil_or_concat s.overlay.levels with hn | ⟨below, lv, hl⟩
    · have e : s.closeTop = s := by simp [State.closeTop, hn]
      simp only [State.closeStages, e, List.mem_cons] at h
      rcases h with rfl | h
      · exact ⟨hw, fun _ => .inl rfl⟩
      · obtain ⟨h1, h2⟩ := ih s hw h
        refine ⟨h1, fun i => ?_⟩
        rcases h2 i with h2 | ⟨lv, hm, _⟩
        · exact .inl h2
        · simp [hn] at hm
    · have hw' : storeWf cellBlank s.closeTop.store.cells = true := by
        simp only [State.closeTop, hl, List.concat_eq_append, List.getLast?_append_cons, List.getLast?_singleton]
        exact storeSetAll_wf _ _ _ hw
      have hcell : ∀ i, s.closeTop.cell i = if i ∈ lv.cells then s.saved (lv.recordOf i) else s.cell i := by
        intro i
        simp only [State.closeTop, hl, List.concat_eq_append, List.getLast?_append_cons, List.getLast?_singleton,
          State.cell, storeGet_setAll_map]
      have hlevels : s.closeTop.overlay.levels = below := by
        simp [State.closeTop, hl]
      have hsaved : ∀ j, s.closeTop.saved j = s.saved j := by
        intro j
        simp [State.closeTop, hl, State.saved]
      have htop : lv ∈ s.overlay.levels.drop (s.overlay.levels.length - (k + 1)) := by
        rw [hl, List.concat_eq_append, List.drop_append_of_le_length (by simp)]
        simp
      simp only [State.closeStages, List.mem_cons] at h
      rcases h with rfl | h
      · refine ⟨hw', fun i => ?_⟩
        by_cases hi : i ∈ lv.cells
        · exact .inr ⟨lv, htop, hi, by have := hcell i; rwa [if_pos hi] at this⟩
        · exact .inl (by have := hcell i; rwa [if_neg hi] at this)
      · obtain ⟨h1, h2⟩ := ih s.closeTop hw' h
        refine ⟨h1, fun i => ?_⟩
        rcases h2 i with h2 | ⟨lv', hm, hi, h2⟩
        · rw [h2, hcell i]
          by_cases hi : i ∈ lv.cells
          · exact .inr ⟨lv, htop, hi, if_pos hi⟩
          · exact .inl (if_neg hi)
        · refine .inr ⟨lv', ?_, hi, by rw [h2, hsaved]⟩
          rw [hlevels] at hm
          rw [hl, List.concat_eq_append, List.drop_append_of_le_length (by simp)]
          simp only [List.length_append, List.length_singleton, Nat.add_sub_add_right]
          exact List.mem_append_left _ hm

end Sys2Proof.Machine
end

