-- ==== Sys2Proof/Tests/Scene.lean ====
section
/-!
SUPPORT. The small states that the tests and the witnesses speak of, and when a state without stored entries
meets the laws.
-/
namespace Sys2Proof.Tests

open Sys2Proof Sys2Proof.Machine

/-- The state after a command; the state itself where the command does not go on. -/
def after (c : Instr) (s : State) : State :=
  match exec c s with
  | .next t => t
  | _ => s

/-- The mnemonic with which a command is refused as ill-formed. -/
def refusedAs (c : Instr) (s : State) : Option String :=
  match exec c s with
  | .refused (.illFormed m) => some m
  | _ => none

/-- A RUNNING painter of station 20 and group 2, on its reference clock, with nothing bound, heard or open. -/
def scene : State :=
  { State.reset with
    portA := { Port.reset with rx := .ready }
    portB := { Port.reset with rx := .ready }
    scan := { State.reset.scan with blank := false, frameBlank := false }
    group := { State.reset.group with timing := .leading, reference := 20, countdown := 30 }
    control := { State.reset.control with
      mode := .running, heldByPower := false, coldCause := none, valid := true, clock := .reference
      config := { Configuration.default with station := 20, group := 2 } } }

/-- `scene` with this configuration in force. -/
def configured (cfg : Configuration) : State := { scene with control := { scene.control with config := cfg } }

/-- The painter of 3.6: crawl row 47. -/
def crawling : State := configured { scene.control.config with crawlRow := some 47 }

/-- The bytes of a frame on Lane A, class 0, of sequence 5 and group 2, by the layout of 11.1. -/
def wire (sender kind dest : Nat) (payload : List Byte) : List Byte :=
  let body :=
    [byteOf (4 * sender), 0, 5, byteOf (16 * kind + 2), byteOf (4 * dest), byteOf payload.length] ++ payload
  body ++ bytes16 (crc16 body)

/-- That frame, arrived on Lane A. -/
def frame (sender kind dest : Nat) (payload : List Byte) : RxFrame := ⟨wire sender kind dest payload, .a⟩

/-- `s` with one frame from station 7 to every painter of the group. -/
def inbox (s : State) (kind : Nat) (payload : List Byte) : State :=
  { s with frameQueue := [frame 7 kind 63 payload] }

/-- The painter when that frame reaches step 4. -/
def admitted (s : State) (kind : Nat) (payload : List Byte) : State :=
  (({ s with frameQueue := [] } : State).intake (frame 7 kind 63 payload)).1

/-- That frame does reach step 4, when the four decidable facts hold. -/
theorem reaches_inbox (s : State) (kind : Nat) (payload : List Byte)
    (h : s.control.mode = .running ∧ s.hand = .idle ∧
      (({ s with frameQueue := [] } : State).intake (frame 7 kind 63 payload)).2 = true) :
    (inbox s kind payload).reaches (frame 7 kind 63 payload) (admitted s kind payload) :=
  ⟨[], ⟨h.1, h.2.1, rfl⟩, Prod.ext rfl h.2.2⟩

/-- Slot 10 of 3.6 after its BIND: source 7, instrument 1201, field code 2, row 3, columns 20 to 27. -/
def boundTen : Slot :=
  { Slot.cold with
    bound := true, generation := 1
    key := { source := 7, instrument := 1201, field := 2 }
    place := { row := 3, col := 20, width := 8 }
    format := { kind := .decimal, places := 2, expo := 0, half := false, group := true }
    rule := .tick, priority := 5 }

/-- `scene` with slot 10 bound as in 3.6. -/
def withTen (r : Slot) : State :=
  { scene with
    fields := { scene.fields with slots := [(10, r)] }
    store := { scene.store with owner := (List.range 8).map (fun x => (404 + x, Owner.slot 10)) } }

/-- The bit-times of a frame's bytes on a lane. -/
def onLine (sender kind dest : Nat) (payload : List Byte) : List BitTime := lineCode (wire sender kind dest payload)

/-- A peer entry that is LIVE, with high sequence 4. -/
def livePeer : PeerEntry :=
  { PeerEntry.cold with state := .live, high := 4, window := 1, ageA := 0, ageB := 0 }

/-- `s` with station 7 as this entry. -/
def withPeer (s : State) (e : PeerEntry) : State := { s with peers := [(7, e)] }

/-- A REPLY of the transmit queue, WAITING on both lanes. -/
def waitingReply (q : BitVec 16) : TxFrame :=
  { kind := .reply, group := 2, dest := 7, seq := q, restart := false, payload := [8, 0, 5, 0]
    sendA := .waiting, sendB := .waiting }

/-- `scene` with these frames to send and Lane A's port in this transmit state, the first frame in hand. -/
def transmitting (frames : List TxFrame) (st : TxState) (attempts hold : Nat) : State :=
  { scene with
    tx := { frames := frames, seq := 50, queued := 32 }
    portA := { scene.portA with
      rx := .closed, tx := st, hand := frames.head?.map TxFrame.seq, attempts := attempts, hold := hold } }

/-- Level 1 at row 10, column 44, 6 rows of 20 columns, bordered, opened by station 7 (6.3). -/
def levelOne : Level :=
  { top := 10, left := 44, height := 6, width := 20, border := true, fillFg := 7, fillBg := 0
    requester := 7, offset := 0, length := 120 }

/-- A level of one cell at row 0, column 0, opened by station 7. -/
def levelDot : Level :=
  { top := 0, left := 0, height := 1, width := 1, border := false, fillFg := 7, fillBg := 0
    requester := 7, offset := 0, length := 1 }

/-- `scene` with the one-cell level open over a 'Q', and the overlay unit's request holding the port. -/
def dotOpen (request : Option OverlayRequest) : State :=
  { scene with
    store := { cells := [(0, { cellBlank with glyph := 33 })], owner := [], cover := [(0, 1)] }
    overlay :=
      { levels := [levelDot], used := 1, save := [(0, { cellBlank with glyph := 81 })], request := request }
    port := { scene.port with holder := request.map (fun _ => Writer.overlay) } }

/-! ## When the laws hold -/

/-- Every store of the state is in canonical form. -/
def storesOk (s : State) : Bool :=
  storeWf PeerEntry.cold s.peers && storeWf Slot.cold s.fields.slots &&
    storeWf cellBlank s.store.cells && storeWf Owner.none s.store.owner && storeWf 0 s.store.cover &&
    storeWf cellBlank s.scan.frame && storeWf cellBlank s.overlay.save &&
    storeWf TapeEntry.cold s.crawl.tape && storeWf 0 s.control.running && storeWf 0 s.control.snapshot

theorem canonical_of_storesOk {s : State} (h : storesOk s = true) : s.Canonical := by
  simp only [storesOk, Bool.and_eq_true] at h
  obtain ⟨⟨⟨⟨⟨⟨⟨⟨⟨h1, h2⟩, h3⟩, h4⟩, h5⟩, h6⟩, h7⟩, h8⟩, h9⟩, h10⟩ := h
  exact ⟨h1, h2, h3, h4, h5, h6, h7, h8, h9, h10⟩

theorem counters_of_none {s : State} (h : s.control.running = []) : ∀ n, s.counter n ≤ Config.counterTop := by
  intro n
  simp [State.counter, h]

theorem overlayLaw_of_closed {s : State} (h : s.overlay.levels = [] ∧ s.overlay.used = 0 ∧ s.store.cover = [])
    (hr : ∀ op requester, s.overlay.request = some (.openLevel op requester) → s.openTest op = .done) :
    s.OverlayLaw := by
  obtain ⟨h1, h2, h3⟩ := h
  exact
    { depth := by simp [h1], used := by simp [h1, h2, savedLength], fits := by simp [h2]
      level := by simp [h1], uncovered := by simp [h1]
      covered := by simp [State.coverOf, h3], inHand := hr }

/-- Where every listed entry of a store and the unlisted value have a property, what is read has it. -/
theorem storeGet_all {β : Type} {d : β} (P : β → Prop) (hd : P d) {m : Store β} (h : ∀ e ∈ m, P e.2) (n : Nat) :
    P (storeGet d m n) := by
  induction m with
  | nil => exact hd
  | cons e m ih =>
    obtain ⟨k, v⟩ := e
    simp only [storeGet]
    split
    · exact h (k, v) (List.mem_cons_self ..)
    · exact ih (fun e he => h e (List.mem_cons_of_mem _ he))

/-- No event of the last frame start waits: no entry is due, no highlight is to move, no tick, and, while RUNNING, no
beacon. -/
theorem settled_of_quiet {s : State} (h : (∀ e ∈ s.peers, e.2.silenceDue = false ∧ e.2.lapseDue = false) ∧
    (∀ e ∈ s.fields.slots, e.2.highlight.stage = .none ∨ e.2.highlight.remaining ≠ 0) ∧ s.crawl.tickDue = false ∧
    (s.control.mode = .running → s.group.countdown ≠ 0)) : s.Settled := by
  obtain ⟨h1, h2, h3, h4⟩ := h
  exact
    { silence := fun _ p => storeGet_all (·.silenceDue = false) rfl (fun e he => (h1 e he).1) p
      lapse := fun _ p => storeGet_all (·.lapseDue = false) rfl (fun e he => (h1 e he).2) p
      move := fun _ n => by
        have h := storeGet_all (d := Slot.cold) (fun r => r.highlight.stage = .none ∨ r.highlight.remaining ≠ 0) (.inl rfl) h2 n
        rcases h with h | h <;> simp [State.moveDue, State.slot, h]
      tick := fun _ => h3, beacon := h4 }

end Sys2Proof.Tests
end

