-- ==== Sys2Proof/Tests/Slice0.lean ====
section
/-!
SUPPORT. Tests: each one step on a small state. The expected values come from the rule or the worked sequence
that the docstring names.
-/
namespace Sys2Proof.Tests

set_option Elab.async false

open Sys2Proof Sys2Proof.Machine

/-! ## Well-formedness, decoding, idling -/

/-- R4: no reception has more than 256 bytes, 2,048 bit-times. -/
theorem test_wf_frameEnd_2049 : (Instr.frameEnd .a (List.replicate 2048 (bitTime false)) [bitTime true]).wf = false ∧
    refusedAs (.frameEnd .a (List.replicate 2048 (bitTime false)) [bitTime true]) scene = some "FRAME_END" := by
  decide +kernel

/-- R1: the bit-times are split after the last complete byte. -/
theorem test_wf_frameEnd_split : (Instr.frameEnd .a [bitTime true] []).wf = false ∧
    (Instr.frameEnd .a [] (List.replicate 8 (bitTime true))).wf = false := by decide +kernel

/-- R162: the carrier drops once 2 bit-times pass without a transition, so no reception holds four half-levels alike,
and the last transition is in its last bit-time. -/
theorem test_wf_frameEnd_quiet : (Instr.frameEnd .a [] [bitTime true, ⟨true, true⟩, ⟨true, false⟩]).wf = false ∧
    (Instr.frameEnd .a [] [bitTime false, bitTime true, ⟨true, true⟩]).wf = false ∧
    (Instr.frameEnd .a [] [bitTime true, ⟨true, true⟩, bitTime true]).wf = true ∧
    refusedAs (.frameEnd .a [] [bitTime true, ⟨true, true⟩]) scene = some "FRAME_END" := by decide +kernel

/-- R153: the image is 64 bytes. -/
theorem test_wf_image_63 : (Instr.loadingComplete (List.replicate 63 0)).wf = false ∧
    refusedAs (.loadingComplete (List.replicate 63 0)) scene = some "LOADING_COMPLETE" := by decide +kernel

/-- R153: the image is 64 bytes. -/
theorem test_wf_image_65 : refusedAs (.loadingComplete (List.replicate 65 0)) scene =
    some "LOADING_COMPLETE" := by decide +kernel

/-- 2.1: the table has entries 0 to 62. -/
theorem test_wf_silence_63 : (Instr.silenceEvent 63).wf = false ∧
    refusedAs (.silenceEvent 63) scene = some "SILENCE_EVENT" := by decide +kernel

/-- 2.1: the table has entries 0 to 62. -/
theorem test_wf_lapse_63 : (Instr.beaconLapse 63).wf = false ∧
    refusedAs (.beaconLapse 63) scene = some "BEACON_LAPSE" := by decide +kernel

/-- 3.1: the slots are 0 to 255. -/
theorem test_wf_move_256 : (Instr.highlightMove 256).wf = false ∧
    refusedAs (.highlightMove 256) scene = some "HIGHLIGHT_MOVE" := by decide +kernel

/-- The last operands of each range are taken. -/
theorem test_wf_last : (Instr.frameEnd .b (List.replicate 2048 (bitTime true)) []).wf = true ∧
    (Instr.frameEnd .b (List.replicate 2040 (bitTime true)) (List.replicate 7 (bitTime true))).wf = true ∧
    (Instr.loadingComplete (List.replicate 64 0)).wf = true ∧ (Instr.silenceEvent 62).wf = true ∧
    (Instr.beaconLapse 62).wf = true ∧ (Instr.highlightMove 255).wf = true := by decide +kernel

/-- 98_reader.md: no row of the table has bits. -/
theorem test_decode_none : decodeTableWord 16 0x1234 = none := rfl

/-- With no command waiting the block idles (log 1). -/
theorem test_idle : step scene = .next scene := rfl

/-- R161: over "123456789" the CRC register ends at 0x29B1. -/
theorem test_crc_check : crc16 [49, 50, 51, 52, 53, 54, 55, 56, 57] = 0x29B1 := by decide +kernel

/-! ## Lanes -/

/-- R162: the first bit-times of byte 0xA0: high in the second half for 1, in the first half for 0. -/
theorem test_lineCode : (lineCode [0xA0]).take 4 = [⟨false, true⟩, ⟨true, false⟩, ⟨false, true⟩, ⟨true, false⟩] ∧
    lineBytes (lineCode [0xA0]) = [0xA0] := by decide +kernel

/-- R162: every bit-time of the jam violates the code, the level reverses, and IDLE drives nothing. -/
theorem test_jam_line : (∀ high, (jamTimes high).length = 32 ∧ (jamTimes high).all bitViolates = true ∧
    (jamTimes high).take 2 = [⟨high, high⟩, ⟨!high, !high⟩]) ∧ scene.driven .a = none := by decide +kernel

/-- R1: carrier at a ready receive side opens a reception. -/
theorem test_carrierArrival : (after (.carrierArrival .a) scene).portA.rx = .receiving := by decide +kernel

/-- R13: carrier in GAP sends the port back to DEFER (1.6 worked sequence, second event). -/
theorem test_carrierArrival_gap :
    (after (.carrierArrival .a) (transmitting [waitingReply 49] (.gap 24) 0 0)).portA.tx = .defer := by
  decide +kernel

/-- `scene` with a reception open on Lane A. -/
def listening : State := { scene with portA := { scene.portA with rx := .receiving, carrier := true } }

/-- R3, R5, R7: a good frame of 9 bytes adds 9 octets and joins the frame queue (9.5, first row). -/
theorem test_frameEnd_good :
    (after (.frameEnd .a (onLine 4 8 63 [2]) [bitTime true]) listening).frameQueue =
      [⟨wire 4 8 63 [2], .a⟩] ∧
    (after (.frameEnd .a (onLine 4 8 63 [2]) []) listening).counter 1 = 9 := by decide +kernel

/-- R3, R162: one bit-time without its mid-bit transition is a symbol error. -/
theorem test_frameEnd_violation :
    (after (.frameEnd .a (onLine 4 8 63 [2]) [⟨true, true⟩]) listening).counter 3 = 1 := by decide +kernel

/-- R3: one bit wrong is a CRC error. -/
theorem test_frameEnd_crc :
    (after (.frameEnd .a (lineCode (0 :: (wire 4 8 63 [2]).drop 1)) []) listening).counter 2 = 1 := by
  decide +kernel

/-- R4: jabber is counted and the carrier ignored. -/
theorem test_jabberCutoff : (after (.jabberCutoff .a) listening).portA.rx = .ignoring ∧
    (after (.jabberCutoff .a) listening).counter 7 = 1 := by decide +kernel

/-- R4: once the ignored carrier drops the receive side is ready. -/
theorem test_carrierDrop :
    (after (.carrierDrop .a) (after (.jabberCutoff .a) listening)).portA.rx = .ready := by decide +kernel

/-- R13, 11.1: the port sends the header byte of station 20, Lane A, restart clear: 80. -/
theorem test_gapExpiry :
    (match (after (.gapExpiry .a) (transmitting [waitingReply 49] (.gap 24) 0 0)).portA.tx with
      | .sending bytes => bytes.head?
      | _ => none) = some 80 := by decide +kernel

/-- R16: after the third frame of a hold the port contends again. -/
theorem test_transmitComplete :
    (after (.transmitComplete .a) (transmitting [waitingReply 49, waitingReply 50] (.sending []) 2 3)).portA =
      { rx := .ready, carrier := false, tx := .gap 24, hand := some 50, attempts := 0, hold := 0 } := by
  decide +kernel

/-- R16: the next held frame is begun with hold count 3. -/
theorem test_holdGapExpiry :
    (after (.holdGapExpiry .a) (transmitting [waitingReply 49] .holdGap 0 2)).portA.hold = 3 := by decide +kernel

/-- R14: the eighth attempt gives up; the frame waits for Lane B alone. -/
theorem test_collision_eighth :
    (after (.collision .a) (transmitting [waitingReply 49] (.sending []) 7 1)).counter 12 = 1 ∧
    (after (.collision .a) (transmitting [waitingReply 49] (.sending []) 7 1)).tx.frames.map TxFrame.sendA =
      [.abandoned] := by decide +kernel

/-- R15: station 20 after attempt 3 waits (20 + 3) mod 8 = 7 slots. -/
theorem test_jamEnd :
    (after (.jamEnd .a) (transmitting [waitingReply 49] (.jam false true) 3 0)).portA.tx = .backoff 7 := by
  decide +kernel

/-- R15: station 20 after attempt 4 waits (20 + 4) mod 16 = 8 slots, and then contends. -/
theorem test_backoffExpiry :
    (after (.backoffExpiry .a) (transmitting [waitingReply 49] (.backoff 8) 4 0)).portA.tx = .gap 24 := by
  decide +kernel

/-! ## The dispatcher and the field table -/

/-- A QUOTE for instrument 1201 with one numeric item of field code 2: 1,234,567 at scale 2 (3.6). -/
def quotePayload : List Byte := [4, 177, 1, 34, 2] ++ bytes32 1234567

/-- R50, R80: slot 10's pending value is set and taken for a paint. -/
theorem test_quote : (after .quote (inbox (withTen boundTen) 1 quotePayload)).paint =
    some (.paint 10 1 (.numeric 2 1234567) 7 0) ∧
    (after .quote (inbox (withTen boundTen) 1 quotePayload)).counter 37 = 1 := by decide +kernel

/-- R50: a muted slot keeps its pending value, and a second value conflates it. -/
theorem test_quote_conflates :
    (after .quote (inbox (withTen { boundTen with priority := 0, pending := some ⟨.text [65], 9, 3⟩ }) 1
      quotePayload)).counter 39 = 1 := by decide +kernel

/-- R23: the first frame of a station makes it LIVE. -/
theorem test_presence : ((after .presence (inbox scene 2 [])).peer 7).state = .live ∧
    (after .presence (inbox scene 2 [])).counter 36 = 0 := by decide +kernel

/-- R30: a REPLY is unusable; its sequence is marked all the same. -/
theorem test_unusableFrame : (after .unusableFrame (inbox scene 9 [])).counter 36 = 1 ∧
    ((after .unusableFrame (inbox scene 9 [])).peer 7).high = 5 := by decide +kernel

/-- The first operation of 3.6 as a LAYOUT payload (11.2): BIND slot 10. -/
def bindPayload : List Byte := [1, 1, 10, 7, 4, 177, 2, 3, 20, 8, 1, 32, 81, 112, 0]

/-- R43: slot 10 becomes the record of 3.6, generation 1, and its fill is presented. -/
theorem test_bind : (after .bind (inbox scene 4 bindPayload)).slot 10 = boundTen ∧
    (after .bind (inbox scene 4 bindPayload)).ownerOf 411 = .slot 10 := by decide +kernel

/-- R42 test 5, R41: a BOUND slot is refused with SLOT_BUSY, and the REPLY lists it. -/
theorem test_bind_busy :
    (after .bind (inbox (withTen boundTen) 4 bindPayload)).tx.frames.map TxFrame.payload =
      [[4, 0, 5, 1, 1, 10, 1, 1]] := by decide +kernel

/-- R45: the cells become NONE and the generation is kept. -/
theorem test_unbind : (after .unbind (inbox (withTen boundTen) 4 [1, 2, 10])).ownerOf 404 = .none ∧
    ((after .unbind (inbox (withTen boundTen) 4 [1, 2, 10])).slot 10).generation = 1 := by decide +kernel

/-- R46: a priority of 8 is refused with RANGE. -/
theorem test_level : ((after .level (inbox (withTen boundTen) 4 [1, 3, 10, 7])).slot 10).priority = 7 ∧
    (after .level (inbox (withTen boundTen) 4 [1, 3, 10, 8])).tx.frames.map TxFrame.payload =
      [[4, 0, 5, 3, 1, 10, 3, 1]] := by decide +kernel

/-- R44: the fill writes spaces without inverse. -/
theorem test_bindFill :
    (after .bindFill { scene with
      text := some (.fill ⟨3, 20, 8⟩ ⟨9, 4, ⟨true, false, false, true⟩⟩)
      port := { scene.port with holder := some .text } }).cell 404 =
      { glyph := 32, fg := 9, bg := 4, attrs := ⟨true, false, false, false⟩ } := by decide +kernel

/-! ## Text writer -/

/-- R105: a BASE run of one glyph is presented, and the dispatcher waits. -/
theorem test_paintBase : (after .paintBase (inbox scene 3 [0, 12, 36, 112, 0, 88])).text =
    some (.base ⟨12, 36, 7, 0, attrsClear, [88]⟩) := by decide +kernel

/-- R105: row 48 is unusable for BASE, and no rule of TOP. -/
theorem test_paintTop : (after .paintTop (inbox scene 3 [1, 48, 0, 112, 0, 88])).port.holder = some .text ∧
    (after .paintBase (inbox scene 3 [0, 48, 0, 112, 0, 88])).counter 36 = 1 := by decide +kernel

/-- A state in which this run is granted. -/
def runGranted (s : State) (u : TextUnit) : State :=
  { s with text := some u, hand := .paint (frame 7 3 63 []), port := { s.port with holder := some .text } }

/-- R106: the glyphs for owned cells are skipped and counted; the cell before them is written. -/
theorem test_baseRun :
    (after .baseRun (runGranted (withTen boundTen) (.base ⟨3, 19, 7, 0, attrsClear, [81, 81, 81]⟩))).counter 46
      = 2 ∧
    ((after .baseRun (runGranted (withTen boundTen) (.base ⟨3, 19, 7, 0, attrsClear, [81, 81, 81]⟩))).cell
      403).glyph = 81 := by decide +kernel

/-- 6.3: row 1, column 10 inside level 1 is screen row 12, column 55; row 4 is outside. -/
theorem test_topRun :
    let s := { scene with overlay := { scene.overlay with levels := [levelOne], used := 120 } }
    ((after .topRun (runGranted s (.top ⟨1, 10, 7, 0, attrsClear, [88]⟩))).cell (12 * 128 + 55)).glyph = 88 ∧
    (after .topRun (runGranted s (.top ⟨4, 10, 7, 0, attrsClear, [88]⟩))).counter 36 = 1 := by decide +kernel

/-! ## Overlay unit -/

/-- R115: an OPEN over the crawl row is answered CRAWL_ROW. -/
theorem test_overlayOpen : (after .overlayOpen (inbox crawling 5 [1, 46, 0, 2, 1, 0, 112])).tx.frames.map
      TxFrame.payload = [[5, 0, 5, 6, 1, 0, 0, 0, 0]] ∧
    (after .overlayOpen (inbox crawling 5 [1, 45, 0, 2, 1, 0, 112])).port.holder = some .overlay := by
  decide +kernel

/-- R117: CLOSE at depth 0 is answered STACK_EMPTY. -/
theorem test_overlayClose : (after .overlayClose (inbox scene 5 [2])).tx.frames.map TxFrame.payload =
    [[5, 0, 5, 9, 2, 0, 0, 0, 0]] := by decide +kernel

/-- R118: CLOSE_ALL at depth 0 is answered DONE. -/
theorem test_overlayCloseAll : (after .overlayCloseAll (inbox scene 5 [3])).tx.frames.map TxFrame.payload =
    [[5, 0, 5, 0, 3, 0, 0, 0, 0]] := by decide +kernel

/-- `scene` with this OPEN granted. -/
def openGranted : State :=
  { scene with
    overlay := { scene.overlay with request := some (.openLevel ⟨5, 10, 3, 4, 1, 7, 0⟩ 4) }
    port := { scene.port with holder := some .overlay } }

/-- R116: the corner of a bordered level is glyph 256, the bottom right one 259. -/
theorem test_openUnit : ((after .openUnit openGranted).cell 650).glyph = 256 ∧
    ((after .openUnit openGranted).cell (7 * 128 + 13)).glyph = 259 := by decide +kernel

/-- R117: the saved 'Q' returns to the screen. -/
theorem test_closeUnit : ((after .closeUnit (dotOpen (some .close))).cell 0).glyph = 81 ∧
    (after .closeUnit (dotOpen (some .close))).coverOf 0 = 0 := by decide +kernel

/-- R118: every level is closed. -/
theorem test_closeAllUnit : (after .closeAllUnit (dotOpen (some .closeAll))).overlay.levels = [] := by
  decide +kernel

/-- R122: a level is closed while its requester is SILENT, and kept when it is LIVE. -/
theorem test_orphanClose :
    (after .orphanClose ((withPeer (dotOpen (some .orphan)) { livePeer with state := .silent }).grant
      .overlay)).overlay.levels = [] ∧
    (after .orphanClose ((withPeer (dotOpen (some .orphan)) livePeer).grant .overlay)).overlay.levels =
      [levelDot] := by decide +kernel

/-- R102, R122: a return of the requester after the grant does not touch the granted close. -/
theorem test_orphanClose_return :
    let s := (withPeer (dotOpen (some .orphan)) { livePeer with state := .silent }).grant .overlay
    ((after .presence (inbox s 2 [])).peer 7).state = .live ∧
      (after .orphanClose (after .presence (inbox s 2 []))).overlay.levels = [] := by decide +kernel

/-- Two levels over cell 0, the second over the fill of the first, with a CLOSE_ALL granted. -/
def twoDots : State :=
  { dotOpen (some .closeAll) with
    store := { cells := [(0, { cellBlank with glyph := 34 })], owner := [], cover := [(0, 1)] }
    overlay :=
      { levels := [levelDot, { levelDot with offset := 1 }], used := 2
        save := [(0, { cellBlank with glyph := 81 }), (1, { cellBlank with glyph := 33 })], request := some .closeAll } }

/-- R109, R118: the cell stands as the first level's fill between the two closes, and as the base layer after them. -/
theorem test_closeStages : (State.closeStages twoDots.closing.length twoDots).map
    (fun m => (storeGet cellBlank m 0).glyph) = [33, 81] := by decide +kernel

/-- `dotOpen` with the unwinding of a warm reset granted. -/
def dotUnwinding : State :=
  { dotOpen (some .unwinding) with control := { scene.control with mode := .unwinding } }

/-- R124: the unwinding of a warm reset closes every level and RUNNING is entered. -/
theorem test_unwinding : (after .unwinding dotUnwinding).overlay.levels = [] ∧
    (after .unwinding dotUnwinding).control.mode = .running := by
  have e : after .unwinding dotUnwinding =
      State.enterRunning ((dotUnwinding.closeAll.scanned dotUnwinding).overlayFreed) := rfl
  rw [e]
  exact State.inEitherOrder_elim (P := fun t => t.overlay.levels = [] ∧ t.control.mode = .running) _ _ _
    (by decide +kernel) (by decide +kernel)

/-! ## Group timer and crawl engine -/

/-- The painter of 8.9: tile 1 of 3, crawl step 4, P = 65,530. -/
def tileOne : State :=
  let s := configured { crawling.control.config with tilePosition := 1, tileCount := 3, crawlStep := 4 }
  { s with crawl := { s.crawl with p := 65530 } }

/-- 8.9, first event: ten glyphs are late and dropped, index 65,530 stands at 1,018, no repaint. -/
theorem test_crawl :
    let t := after .crawl (inbox tileOne 6 ([255, 240, 112, 0] ++ List.replicate 20 65))
    t.counter 45 = 10 ∧ (t.tapeAt 1018).index = 65530 ∧ t.crawl.request = false := by decide +kernel

/-- 8.9, third event: indices 130 to 132 are stored in view, and a repaint is needed. -/
theorem test_crawl_in_view :
    (after .crawl (inbox tileOne 6 [0, 130, 112, 0, 65, 66, 67])).crawl.request = true := by decide +kernel

/-- R138: the step clears the entry at P and moves P on by one. -/
theorem test_crawlStep :
    let t := after .crawlStep { tileOne with crawl := { tileOne.crawl with
      tape := [(1018, { TapeEntry.cold with valid := true, index := 65530 })], tickDue := true } }
    t.crawl.p = 65531 ∧ (t.tapeAt 1018).valid = false := by decide +kernel

/-- R133, R140: a follower adopts the phase count and P of its reference, one correction. -/
theorem test_beacon :
    let s := withPeer scene { livePeer with painter := true, beaconGroup := 2, beaconAge := 5 }
    let t := after .beacon (inbox { s with group := { s.group with timing := .following, reference := 7 } } 7
      [0, 9, 0, 200])
    t.group.phase = 9 ∧ t.crawl.p = 200 ∧ t.group.corrections = 1 := by decide +kernel

/-- R128: the payload is the phase count and P, and the countdown is set again. -/
theorem test_beaconDue :
    let t := after .beaconDue { tileOne with group := { tileOne.group with countdown := 0, phase := 258 } }
    t.tx.frames.map TxFrame.payload = [[1, 2, 255, 250]] ∧ t.group.countdown = 30 := by decide +kernel

/-- R141: column 8 of tile 1 shows index 65,530 + 136 = 130 (8.9). -/
theorem test_crawlRepaint :
    let s := ({ tileOne with
      crawl := { tileOne.crawl with
        tape := [(130, { TapeEntry.cold with valid := true, index := 130, glyph := 65 })]
        request := true } } : State).grant .crawl
    ((after .crawlRepaint s).cell (47 * 128 + 8)).glyph = 65 ∧
      (after .crawlRepaint s).port.holder = none := by decide +kernel

/-- R102, R141: a step after the grant leaves the granted cells, and calls for a further repaint. -/
theorem test_crawlRepaint_step :
    let s := ({ tileOne with
      crawl := { tileOne.crawl with
        tape := [(130, { TapeEntry.cold with valid := true, index := 130, glyph := 65 })]
        request := true, tickDue := true } } : State).grant .crawl
    ((after .crawlRepaint (after .crawlStep s)).cell (47 * 128 + 8)).glyph = 65 ∧
      (after .crawlRepaint (after .crawlStep s)).port.holder = some .crawl := by decide +kernel

/-- R131: the lapse of the reference leaves the own station as candidate. -/
theorem test_beaconLapse :
    let s := withPeer scene { livePeer with painter := true, beaconGroup := 2, beaconAge := 90, lapseDue := true }
    (after (.beaconLapse 7) { s with group := { s.group with timing := .following, reference := 7 } }).group.timing
      = .leading := by decide +kernel

/-! ## Queries -/

/-- R146, 11.3: the record of station 20 in group 2, with one LIVE peer missing on Lane B. -/
theorem test_status : (after .status (inbox scene 8 [1])).tx.frames.map TxFrame.payload =
    [[8, 0, 5, 0, 20, 2, 0, 0, 1, 20, 0, 0, 0, 0, 0, 0, 0, 0, 0, 0, 0, 0, 0, 1, 0, 1]] := by decide +kernel

/-- R149: the running counter goes to the snapshot and to zero (9.5). -/
theorem test_capture :
    let t := after .capture (inbox
      { scene with control := { scene.control with running := [(1, 4294967295), (47, 3)] } } 8 [2])
    t.snapCounter 1 = 4294967295 ∧ t.counter 1 = 0 := by decide +kernel

/-- R150: page 4 is answered RANGE. -/
theorem test_counters : (after .counters (inbox scene 8 [3, 4])).tx.frames.map TxFrame.payload =
    [[8, 0, 5, 3]] := by decide +kernel

/-- R147, 11.3: the report of slot 10 of 3.6, showing 12,345.67 from station 7. -/
theorem test_slotQuery :
    (after .slotQuery (inbox (withTen { boundTen with shown := some ⟨.numeric 2 1234567, 7⟩ }) 8
      [4, 10])).tx.frames.map TxFrame.payload =
    [[8, 0, 5, 0, 10, 3, 1, 7, 4, 177, 2, 3, 20, 8, 1, 32, 81, 112, 0, 0, 7, 1, 2] ++ bytes32 1234567] := by
  decide +kernel

/-- R151: with a level open the painter unwinds, cause REMOTE. -/
theorem test_restart : (after (.restart true) (inbox (dotOpen none) 8 [5])).control.mode = .unwinding ∧
    (after (.restart true) (inbox (dotOpen none) 8 [5])).control.cause = .remote := by decide +kernel

/-- R143: an unknown code is answered BAD_REQUEST. -/
theorem test_badRequest : (after .badRequest (inbox scene 8 [6])).tx.frames.map TxFrame.payload =
    [[8, 0, 5, 10]] := by decide +kernel

/-! ## Frame starts and the screen -/

set_option maxRecDepth 20000 in
/-- R127: 65,535 is followed by 0. -/
theorem test_frameStart :
    (after .frameStart { scene with group := { scene.group with phase := 65535 } }).group.phase = 0 := by
  decide +kernel

set_option maxRecDepth 20000 in
/-- R92, R108: a highlight ages in LOADING, and not in HELD (R152). -/
theorem test_frameStart_loading :
    let s (m : Mode) : State := let u := withTen { boundTen with highlight := ⟨.flash, 9, true⟩ }
      { u with control := { u.control with mode := m } }
    ((after .frameStart (s .loading)).slot 10).highlight.remaining = 8 ∧
      ((after .frameStart (s .held)).slot 10).highlight.remaining = 9 := by decide +kernel

set_option maxRecDepth 20000 in
/-- R111: the first frame start after RUNNING was entered ends the blanking, in HELD too. -/
theorem test_frameStart_blank :
    let s (c : Option Cause) : State := { scene with
      scan := { scene.scan with blank := true }, control := { scene.control with mode := .held, coldCause := c } }
    (after .frameStart (s none)).scan.blank = false ∧ (after .frameStart (s (some .power))).scan.blank = true := by
  decide +kernel

/-- R32: the age of a LIVE peer reaches the stale time of 256 frame starts: SILENT. -/
theorem test_age_silent :
    (PeerEntry.age 256 2 90 { livePeer with silenceAge := 255 }).state = .silent ∧
    (PeerEntry.age 256 2 90 { livePeer with silenceAge := 254 }).state = .live := by decide +kernel

/-- R53: the silence event marks the slot that shows the station's value. -/
theorem test_silenceEvent :
    let s := withPeer (withTen { boundTen with shown := some ⟨.numeric 2 1234567, 7⟩ })
      { livePeer with state := .silent, silenceDue := true }
    ((after (.silenceEvent 7) s).slot 10).stale = true ∧
      (after (.silenceEvent 7) s).paint = some (.restyle 10 1) :=
  State.inEitherOrder_elim (P := fun t => (t.slot 10).stale = true ∧ t.paint = some (.restyle 10 1)) _ _ _
    (by decide +kernel) (by decide +kernel)

/-- R93: FLASH moves on to FADE-1 with the fade step of 8 frames (5.9). -/
theorem test_highlightMove :
    ((after (.highlightMove 10) (withTen { boundTen with highlight := ⟨.flash, 0, true⟩ })).slot 10).highlight =
      ⟨.fade1, 8, true⟩ := by decide +kernel

set_option maxRecDepth 20000 in
/-- R110: inverse exchanges the colours, dim then halves the new foreground 0xFFF to 0x777. -/
theorem test_activeStart :
    let s := { scene with store := { scene.store with cells := [(0, ⟨65, 0, 15, ⟨false, true, false, true⟩⟩)] } }
    (after .activeStart s).pixel 0 0 = some { shape := 65, fg := 0x777, bg := 0x000, underline := false } := by
  decide +kernel

/-! ## Paint unit and formatter -/

/-- `withTen r` with this operation granted, station 7 LIVE. -/
def paintGranted (r : Slot) (op : PaintOp) : State :=
  ({ withPeer (withTen r) livePeer with paint := some op } : State).grant .paint

/-- R82 to R84, 4.11: 1,234,610 over 1,234,580 is UP and flashes; the first cell shows '1'. -/
theorem test_paintCompletion :
    let t := after .paintCompletion (paintGranted
      { boundTen with shown := some ⟨.numeric 2 1234580, 7⟩ } (.paint 10 1 (.numeric 2 1234610) 7 0))
    (t.slot 10).highlight = ⟨.flash, 30, true⟩ ∧ t.cell 404 = ⟨49, 10, 2, attrsClear⟩ := by decide +kernel

/-- R81: the paint of a slot bound again since is abandoned. -/
theorem test_paintCompletion_abandoned :
    (after .paintCompletion (paintGranted boundTen (.paint 10 0 (.numeric 2 1234610) 7 0))).counter 41 = 1 := by
  decide +kernel

/-- R81, R102: an UNBIND after the grant does not touch the granted paint, which is counted as one. -/
theorem test_paintCompletion_unbound :
    let s := paintGranted boundTen (.paint 10 1 (.numeric 2 1234610) 7 0)
    let t := after .paintCompletion (after .unbind (inbox s 4 [1, 2, 10]))
    t.counter 40 = 1 ∧ t.counter 41 = 0 ∧ (t.slot 10).bound = false ∧ (t.cell 404).glyph = 49 := by decide +kernel

/-- R86, R90: a stale slot's cell is recoloured in the stale role 6 and keeps its glyph. -/
theorem test_restyleCompletion :
    (after .restyleCompletion (paintGranted
      { boundTen with shown := some ⟨.numeric 2 1234580, 7⟩, stale := true } (.restyle 10 1))).cell 404 =
      ⟨32, 6, 0, attrsClear⟩ := by decide +kernel

/-- The value `v` at scale `s`, as an item carries it. -/
def amount (v : Int) (s : Nat) : Value := .numeric s (BitVec.ofInt 32 v)

/-- 4.10, DECIMAL, rows 1 and 8: the plain form "12345.67", and an overflow. -/
theorem test_format_decimal :
    formatValue ⟨.decimal, 2, 0, false, true⟩ 8 (amount 1234567 2) =
      ⟨[49, 50, 51, 52, 53, 46, 54, 55], false, false⟩ ∧
    formatValue ⟨.decimal, 6, 0, false, true⟩ 16 (amount (-2147483648) 0) =
      ⟨List.replicate 16 35, true, false⟩ := by decide +kernel

/-- 4.10, CHANGE, rows 1 to 3: " +1.25", "  0.00", " -0.01". -/
theorem test_format_change :
    (formatValue ⟨.change, 2, 0, false, false⟩ 6 (amount 125 2)).glyphs = [32, 43, 49, 46, 50, 53] ∧
    (formatValue ⟨.change, 2, 0, false, false⟩ 6 (amount (-4) 3)).glyphs = [32, 32, 48, 46, 48, 48] ∧
    (formatValue ⟨.change, 2, 0, false, false⟩ 6 (amount (-5) 3)).glyphs = [32, 45, 48, 46, 48, 49] := by
  decide +kernel

/-- 4.10, FRACTION, rows 1, 6 and 8: "  99-16+", " 3-00 ", " -1-0". -/
theorem test_format_fraction :
    (formatValue ⟨.fraction, 0, 5, true, false⟩ 8 (amount 99515625 6)).glyphs =
      [32, 32, 57, 57, 45, 49, 54, 43] ∧
    (formatValue ⟨.fraction, 0, 5, true, false⟩ 6 (amount 2999 3)).glyphs = [32, 51, 45, 48, 48, 32] ∧
    (formatValue ⟨.fraction, 0, 3, false, false⟩ 5 (amount (-999) 3)).glyphs = [32, 45, 49, 45, 48] := by
  decide +kernel

/-- 4.10, SIZE, rows 2, 5 and 6: "12345K", "###", and the clamp of −40. -/
theorem test_format_size :
    (formatValue ⟨.size, 0, 0, false, true⟩ 6 (amount 12345678 0)).glyphs = [49, 50, 51, 52, 53, 75] ∧
    formatValue ⟨.size, 0, 0, false, false⟩ 3 (amount 999999 0) = ⟨[35, 35, 35], true, false⟩ ∧
    formatValue ⟨.size, 0, 0, false, false⟩ 5 (amount (-40) 0) = ⟨[32, 32, 32, 32, 48], false, true⟩ := by
  decide +kernel

/-- 2.6, first sequence: 1,002 behind 1,003 is accepted with its flag clear, then a duplicate. -/
theorem test_window_twin :
    let e := { livePeer with high := 1003, window := 0b1111101 }
    (e.judge 1002 false).accepted = true ∧ ((e.judge 1002 false).entry.judge 1002 false).accepted = false := by
  decide +kernel

/-! ## Resets, configuration, clock -/

/-- R152: power-on holds the painter with no station and FAULT asserted. -/
theorem test_powerOn : (after .powerOn scene).control.mode = .held ∧
    (after .powerOn scene).control.config.station = 63 := by decide +kernel

/-- R152: nRST leaves the counters and the station until the end of HELD decides. -/
theorem test_resetAssert : (after .resetAssert scene).control.mode = .held ∧
    (after .resetAssert scene).control.config.station = 20 := by decide +kernel

/-- R152: nRST low in LOADING of a cold reset of cause POWER sets the cold values at once. -/
theorem test_resetAssert_power :
    let s : State := { scene with control := { scene.control with mode := .loading, coldCause := some .power } }
    (after .resetAssert s).control.config.station = 63 ∧
      (after .resetAssert { s with control := { s.control with coldCause := some .coldPin } }).control.config.station
        = 20 := by decide +kernel

/-- R152: nCOLD low decides a cold reset, COLD_PIN (10.2 worked sequence). -/
theorem test_heldEnd : (after (.heldEnd true true) (after .resetAssert scene)).control.mode = .loading ∧
    (after (.heldEnd true true) (after .resetAssert scene)).control.cause = .coldPin := by decide +kernel

/-- The image of the worked sequence of 10.2. -/
def clampedImage : List Byte :=
  let b : List Byte := [0xC5, 12, 15, 0] ++ List.replicate 32 0 ++ [10, 12, 2, 4, 8, 1, 5, 6, 14, 15, 1] ++
    [30, 8, 61, 16, 30, 47, 5, 4, 0] ++ List.replicate 6 0
  b ++ bytes16 (BitVec.ofNat 16 (b.map BitVec.toNat).sum)

/-- 10.2: group 14, blink 60, step 1, position 3, four clamped fields. -/
theorem test_loadingComplete :
    let c := (after (.loadingComplete clampedImage)
      { scene with control := { scene.control with mode := .loading } }).control
    (c.config.station, c.config.group, c.config.blink, c.config.crawlStep, c.config.tilePosition, c.clamped) =
      (12, 14, 60, 1, 3, 4) := by decide +kernel

/-- R153: CLEARING complete enters RUNNING. -/
theorem test_clearingComplete :
    (after .clearingComplete { scene with control := { scene.control with mode := .clearing } }).control.mode =
      .running :=
  State.inEitherOrder_elim (P := fun t => t.control.mode = .running) _ _ _ (by decide +kernel) (by decide +kernel)

/-- R158, R12: the reference stops: BACKUP, and the transmit queue is emptied. -/
theorem test_referenceStop :
    (after .referenceStop (transmitting [waitingReply 49] (.gap 24) 0 0)).tx.frames = [] ∧
    (after .referenceStop scene).control.clock = .backup := by decide +kernel

end Sys2Proof.Tests
end

