-- ==== Sys2Proof/Tests/Witnesses.lean ====
section
/-!
SUPPORT. Witnesses: for each statement with hypotheses, concrete states and operands that meet all of them
together, clause by clause, at the ends of the clauses' ranges.
-/
namespace Sys2Proof.Tests

open Sys2Proof Sys2Proof.Machine

set_option Elab.async false

/-! ## The whole machine -/

theorem witness_StepRunsFrontCommand : ∃ (c : Instr) (rest : List Instr) (s : State), s.pending = c :: rest :=
  ⟨.frameStart, [.activeStart], { scene with pending := [.frameStart, .activeStart] }, rfl⟩

theorem witness_ExecKeepsQueue : ∃ (c : Instr) (s t : State), exec c s = .next t :=
  ⟨.carrierArrival .a, scene, _, rfl⟩

theorem witness_WellFormedCommandsGoOn :
    ∃ c d : Instr, c.wf = true ∧ d.wf = false :=
  ⟨.highlightMove 255, .highlightMove 256, by decide⟩

/-- One state that meets every law, and goes on: the hypotheses of the eleven step laws. -/
theorem witness_step_laws : ∃ s t : State, s.Canonical ∧ s.Bounded ∧ s.WindowLaw ∧ s.SlotLaw ∧ s.OwnerLaw ∧
    s.OverlayLaw ∧ s.TapeLaw ∧ s.ReferenceLaw ∧ s.ArbiterLaw ∧ s.PaintLaw ∧ s.StaleLaw ∧
    step s = .next t := by
  refine ⟨{ scene with pending := [.carrierArrival .a] }, _, canonical_of_storesOk (by decide +kernel),
    ?_, ?_, ?_, ?_, overlayLaw_of_closed (by decide +kernel) (by intro op r h; cases h), ?_, ?_, ?_, ?_, ?_, rfl⟩
  · exact
      { running := counters_of_none rfl
        snapshot := fun n => by simp [State.snapCounter, scene, State.reset]
        frameQueue := by decide, transmitQueue := by decide, queued := by decide
        attempts := by intro l; cases l <;> decide, hold := by intro l; cases l <;> decide
        holdGap := by intro l; cases l <;> decide
        laneAges := fun p => by simp [State.peer, scene, State.reset, PeerEntry.cold]
        beaconAge := fun p => by simp [State.peer, scene, State.reset, PeerEntry.cold]
        silenceAge := fun p => by simp [State.peer, scene, State.reset, PeerEntry.cold]
        highlight := fun n => by simp [State.slot, scene, State.reset, Slot.cold, Highlight.cold]
        countdown := by decide, read := by decide
        corrections := by decide, clamped := by decide
        ran := by decide
        loading := by decide
        unheard := by decide
        config :=
          { station := by decide, group := by decide, palette := by decide, hold := by decide, fade := by decide
            blink := by decide, staleUnits := by decide, interval := by decide
            crawlRow := by intro r h; cases h
            tileCount := by decide, tilePosition := by decide, crawlStep := by decide } }
  · intro p h
    simp [State.peer, scene, State.reset, PeerEntry.cold] at h
  · intro n
    constructor <;> simp [State.slot, scene, State.reset, Slot.cold, Highlight.cold]
  · constructor <;> simp [State.slot, State.ownerOf, scene, State.reset, Slot.cold, Configuration.default]
  · intro k h
    simp [State.tapeAt, scene, State.reset, TapeEntry.cold] at h
  · exact
      { free := by decide, leading := by decide, following := by decide, neverFree := by decide
        station := by decide, defaulted := by decide, resetting := by decide, cold := by decide, ran := by decide }
  · exact
      { holder := by intro w h; cases h
        idle := by intro _ w; cases w <;> rfl
        alone := by intro h; exact absurd rfl h
        decided := rfl }
  · intro _ _
    decide +kernel
  · constructor <;> simp [State.slot, State.peer, scene, State.reset, Slot.cold, PeerEntry.cold]

/-! ## Lanes -/

theorem witness_CarrierEvents :
    (∃ (lane : Lane) (s : State), (s.lanePort lane).carrier = false ∧ (s.lanePort lane).rx = .ready ∧
      (s.lanePort lane).tx = .gap 24) ∧
    (∃ (lane : Lane) (s : State), (s.lanePort lane).carrier = true ∧ (s.lanePort lane).rx ≠ .receiving ∧
      (s.lanePort lane).rx ≠ .closed ∧ (s.lanePort lane).tx = .defer) ∧
    ∃ (lane : Lane) (s : State), (∀ n, s.counter n ≤ Config.counterTop) ∧ (s.lanePort lane).rx = .receiving := by
  refine ⟨⟨.b, { scene with portB := { scene.portB with tx := .gap 24 } }, by decide⟩,
    ⟨.a, { scene with portA := { scene.portA with rx := .ignoring, carrier := true, tx := .defer } }, by decide⟩,
    .a, listening, counters_of_none rfl, by decide⟩

/-- `n` bytes whose last two are the CRC of the rest. -/
def goodBytes (n : Nat) : List Byte := List.replicate (n - 2) 0 ++ bytes16 (crc16 (List.replicate (n - 2) 0))

set_option maxRecDepth 20000 in
/-- The line carries these bytes back, without and with a violation, and carrier is held through them: 8 bits to a
byte, 2,048 at most. -/
theorem witness_FrameEndClassifies_line : ∀ n ∈ [2, 3, 7, 8, 128, 129, 256],
    let times := lineCode (goodBytes n)
    lineBytes times = goodBytes n ∧ times.length % 8 = 0 ∧ times.length ≤ 2048 ∧
      lineViolation (times ++ []) = false ∧ carrierHeld (times ++ []) = true ∧
      let violating : BitTime := let level := (times.getLast?.map BitTime.second).getD false; ⟨!level, !level⟩
      lineViolation (times ++ [violating]) = true ∧ carrierHeld (times ++ [violating]) = true := by
  decide +kernel

/-- What is held to in `witness_FrameEndClassifies_line` are the statement's hypotheses on the levels. -/
theorem witness_FrameEndClassifies_levels (times : List BitTime) (h : carrierHeld times = true) :
    ∃ levels, levels = times.flatMap (fun b => [b.first, b.second]) ∧
      (∀ i level, i + 4 ≤ levels.length → ∃ j, i ≤ j ∧ j < i + 4 ∧ levels[j]? ≠ some level) ∧
      ∀ level, 3 ≤ levels.length → ∃ j, levels.length ≤ j + 3 ∧ j < levels.length ∧ levels[j]? ≠ some level :=
  ⟨_, rfl, (carrierHeld_iff times _ rfl).1 h⟩

set_option maxRecDepth 20000 in
/-- The hypotheses on the state hold of `listening`; the lengths stand at both ends of each class. -/
theorem witness_FrameEndClassifies :
    ((∀ n, listening.counter n ≤ Config.counterTop) ∧ (listening.lanePort .a).rx = .receiving) ∧
    (crcGood (goodBytes 3) = true ∧ crcGood (goodBytes 7) = true ∧ (goodBytes 7).length = 7) ∧
    (crcGood [] = false ∧ crcGood (List.replicate 7 0) = false) ∧
    (crcGood (goodBytes 129) = true ∧ (goodBytes 129).length = 129 ∧ crcGood (goodBytes 256) = true ∧
      (goodBytes 256).length = 256) ∧
    (crcGood (List.replicate 129 0) = false ∧ crcGood (List.replicate 256 0) = false) ∧
    (crcGood (List.replicate 8 0) = false ∧ crcGood (List.replicate 128 0) = false) ∧
    (crcGood (wire 63 2 63 []) = true ∧ RxFrame.sender ⟨wire 63 2 63 [], .a⟩ = 63 ∧
      crcGood (goodBytes 128) = true ∧ (goodBytes 128).length ≠ 8 + RxFrame.payloadLength ⟨goodBytes 128, .a⟩) ∧
    ∀ payload ∈ [[], List.replicate 23 1, List.replicate 24 1, List.replicate 55 1, List.replicate 56 1,
        List.replicate 120 (1 : Byte)],
      crcGood (wire 62 2 63 payload) = true ∧ RxFrame.sender ⟨wire 62 2 63 payload, .a⟩ ≠ 63 ∧
        (wire 62 2 63 payload).length = 8 + RxFrame.payloadLength ⟨wire 62 2 63 payload, .a⟩ :=
  ⟨⟨counters_of_none rfl, by decide⟩, by decide +kernel⟩

theorem witness_PortBeginsFrame :
    (∃ f : TxFrame, (transmitting [waitingReply 49] (.gap 24) 0 0).handFrame .a = some f ∧ f.kind = .reply) ∧
    (∃ f : TxFrame, (transmitting [{ waitingReply 49 with kind := .beacon }] .holdGap 0 2).handFrame .a = some f ∧
      f.kind = .beacon) :=
  ⟨⟨waitingReply 49, by decide +kernel⟩, { waitingReply 49 with kind := .beacon }, by decide +kernel⟩

/-- A port that completes a frame: with another to send at hold counts 2 and 3, and with none. -/
theorem witness_TransmitCompletes : ∀ s ∈ [transmitting [waitingReply 49, waitingReply 50] (.sending []) 2 2,
      transmitting [waitingReply 49, waitingReply 50] (.sending []) 2 3,
      transmitting [waitingReply 49] (.sending []) 0 1],
    s.control.mode = .running ∧ (s.lanePort .a).tx = .sending [] ∧ (s.lanePort .a).hand = some 49 := by
  decide +kernel

theorem witness_TransmitCompletes_next :
    ((after (.transmitComplete .a)
      (transmitting [waitingReply 49, waitingReply 50] (.sending []) 2 2)).firstWaiting .a).map TxFrame.seq =
        some 50 ∧
    (after (.transmitComplete .a) (transmitting [waitingReply 49] (.sending []) 0 1)).firstWaiting .a = none := by
  decide +kernel

/-- The seventh and the eighth attempt collide; a jam ends with and without a frame; a backoff runs out. -/
theorem witness_CollisionBacksOff :
    (∀ s ∈ [transmitting [waitingReply 49] (.sending []) 6 1, transmitting [waitingReply 49] (.sending []) 7 1],
      (s.lanePort .a).tx = .sending [] ∧ (s.lanePort .a).hand = some 49 ∧ s.control.running = []) ∧
    ((transmitting [waitingReply 49] (.jam false true) 7 0).lanePort .a).tx = .jam false true ∧
    ((transmitting [waitingReply 49] (.backoff 15) 7 0).lanePort .a).tx = .backoff 15 ∧
    (∀ s ∈ [transmitting [] (.jam true true) 0 0, transmitting [waitingReply 50] (.jam true true) 0 0],
      (s.lanePort .a).tx = .jam true true ∧ s.control.mode = .running) ∧
    (transmitting [] (.jam true true) 0 0).firstWaiting .a = none ∧
    (transmitting [waitingReply 50] (.jam true true) 0 0).firstWaiting .a = some (waitingReply 50) := by decide +kernel

theorem witness_SentFrameReadsBack : ∃ (f : TxFrame) (station : Nat),
    station < 63 ∧ f.group < 16 ∧ f.dest < 64 ∧ f.payload.length ≤ 120 :=
  ⟨{ waitingReply 65535 with group := 15, dest := 63, payload := List.replicate 120 255 }, 62, by decide +kernel⟩

/-- A port in SEND with a frame, one that jams, and one that waits. -/
theorem witness_SentFrameReadsBack_driven :
    (∀ v ∈ [TxState.sending [0xA0], .jam false true, .jam true false, .idle],
      (transmitting [waitingReply 49] v 0 0).control.mode = .running ∧
        ((transmitting [waitingReply 49] v 0 0).lanePort .a).tx = v) ∧
    State.reset.control.mode ≠ .running := by decide +kernel

theorem witness_ReplyQueuedOrDropped : ∃ s v w : State,
    (∀ n, s.counter n ≤ Config.counterTop) ∧ s.inhibited = false ∧ s.tx.frames.length = 3 ∧
    (∀ n, v.counter n ≤ Config.counterTop) ∧ v.tx.frames.length = 4 ∧
    (∀ n, w.counter n ≤ Config.counterTop) ∧ w.inhibited = true :=
  ⟨transmitting [waitingReply 49, waitingReply 50, waitingReply 51] (.gap 24) 0 0,
    transmitting [waitingReply 49, waitingReply 50, waitingReply 51, waitingReply 52] (.gap 24) 0 0,
    { scene with control := { scene.control with clock := .backup } },
    counters_of_none rfl, by decide, by decide, counters_of_none rfl, by decide, counters_of_none rfl, by decide⟩

theorem witness_ReplyQueuedOrDropped_idle : ∃ s : State, s.inhibited = false ∧ s.tx.frames.length < 4 ∧
    (s.lanePort .a).tx = .idle ∧ s.control.mode = .running ∧ s.firstWaiting .a = none :=
  ⟨scene, by decide⟩

/-! ## Peers and the dispatcher -/

theorem witness_ClashDiscarded : ∃ (c : Instr) (takes : RxFrame → Bool) (s : State) (f : RxFrame)
    (rest : List RxFrame), (∀ n, s.counter n ≤ Config.counterTop) ∧ rowTakes c = some takes ∧
      s.readyFor f rest ∧ takes f = true ∧ f.sender = s.control.config.station :=
  ⟨.presence, _, { scene with frameQueue := [frame 20 2 63 []] }, frame 20 2 63 [], [], counters_of_none rfl, rfl,
    ⟨rfl, rfl, rfl⟩, by decide +kernel, by decide +kernel⟩

theorem witness_EntryReinitialised : ∃ e g : PeerEntry, e.state ≠ .live ∧ g.state = .live ∧ g.run = false :=
  ⟨{ livePeer with state := .silent }, livePeer, by decide⟩

/-- Distances 0, 1 and 32,767 ahead; 32,768 (far behind); 31 behind, marked and clear; 32 behind. -/
theorem witness_WindowDecides :
    let e := { livePeer with high := 100, window := 0x80000001 }
    e.state = .live ∧ e.run = false ∧ ((101 : BitVec 16) - e.high).toNat = 1 ∧
      ((32867 : BitVec 16) - e.high).toNat = 32767 ∧
      ((32868 : BitVec 16) - e.high).toNat = 32768 ∧ 32 ≤ (e.high - (32868 : BitVec 16)).toNat ∧
      32768 ≤ ((69 : BitVec 16) - e.high).toNat ∧ (e.high - (69 : BitVec 16)).toNat = 31 ∧
      e.marks 31 = true ∧ e.marks 30 = false ∧ (e.high - (70 : BitVec 16)).toNat = 30 ∧
      32768 ≤ ((68 : BitVec 16) - e.high).toNat ∧ (e.high - (68 : BitVec 16)).toNat = 32 := by decide +kernel

/-- A frame for station 21, from a sender that is SILENT; its sequence 5 is one ahead of the entry's high. -/
theorem witness_DiscardedFrameRecorded : ∃ (c : Instr) (takes : RxFrame → Bool) (s : State) (f : RxFrame)
    (rest : List RxFrame) (e : PeerEntry) (v : Verdict), s.Canonical ∧ (∀ n, s.counter n ≤ Config.counterTop) ∧
      rowTakes c = some takes ∧ s.readyFor f rest ∧ takes f = true ∧ f.sender ≠ s.control.config.station ∧
      (s.peer f.sender).silenceDue = false ∧ f.lane = .a ∧ e = { s.peer f.sender with ageA := 0 } ∧
      v = e.judge f.seq f.restart ∧ v.accepted = true ∧ f.dest ≠ 63 ∧ f.dest ≠ s.control.config.station :=
  ⟨.quote, _, { withPeer scene { livePeer with state := .silent } with frameQueue := [frame 7 1 21 []] },
    frame 7 1 21 [], [], _, _, canonical_of_storesOk (by decide +kernel), counters_of_none rfl, rfl, ⟨rfl, rfl, rfl⟩,
    by decide +kernel, by decide +kernel, by decide +kernel, rfl, rfl, rfl, by decide +kernel, by decide +kernel,
    by decide +kernel⟩

/-- A BEACON of the first heard sender for station 21; a BEACON of 3 bytes of a LIVE sender; and a broadcast to
group 2 at a painter of group 3. -/
theorem witness_DiscardedFrameRecorded_rows : ∀ e ∈ [(Instr.beacon, frame 7 7 21 [0, 9, 0, 200], scene),
      (.beacon, frame 7 7 21 [0, 9, 0], withPeer scene livePeer),
      (.presence, frame 7 2 63 [], configured { scene.control.config with group := 3 })],
    e.2.2.control.mode = .running ∧ e.2.2.hand = .idle ∧ storesOk e.2.2 = true ∧ e.2.2.control.running = [] ∧
      (rowTakes e.1).any (fun takes => takes e.2.1) = true ∧ e.2.1.sender ≠ e.2.2.control.config.station ∧
      (e.2.2.peer e.2.1.sender).silenceDue = false ∧
      (({ e.2.2.peer e.2.1.sender with ageA := 0 } : PeerEntry).judge e.2.1.seq e.2.1.restart).accepted = true ∧
      (e.2.1.dest ≠ 63 → e.2.1.dest ≠ e.2.2.control.config.station) ∧
      (e.2.1.dest = 63 → e.2.1.group ≠ e.2.2.control.config.group ∧ e.2.1.group ≠ 15) := by decide +kernel

/-- The frame is a duplicate: its sequence 5 is the high of the entry. -/
theorem witness_DiscardedFrameRecorded_duplicate :
    let s := { withPeer scene { livePeer with high := 5 } with frameQueue := [frame 7 1 63 []] }
    (({ s.peer 7 with ageA := 0 } : PeerEntry).judge (frame 7 1 63 []).seq (frame 7 1 63 []).restart).accepted =
        false ∧
      storesOk s = true ∧ s.control.running = [] ∧ s.control.mode = .running ∧ s.hand = .idle ∧
      (frame 7 1 63 []).sender = 7 ∧ (s.peer 7).silenceDue = false := by decide +kernel

/-- A broadcast of the own group from a station heard for the first time, with slot 10's value of that station
shown stale. -/
theorem witness_FramesHandedOn_accepted : ∃ (s : State) (f : RxFrame) (rest : List RxFrame) (e : PeerEntry)
    (v : Verdict), s.Canonical ∧ (∀ n, s.counter n ≤ Config.counterTop) ∧ s.readyFor f rest ∧
      f.sender ≠ s.control.config.station ∧ (s.peer f.sender).silenceDue = false ∧ f.lane = .a ∧
      e = { s.peer f.sender with ageA := 0 } ∧ v = e.judge f.seq f.restart ∧ v.accepted = true ∧ f.dest = 63 ∧
      f.group = s.control.config.group ∧ (s.peer f.sender).state = .unheard ∧ (s.slot 10).bound = true ∧
      (s.slot 10).shown = some ⟨amount 1234567 2, f.sender⟩ :=
  ⟨{ withTen { boundTen with shown := some ⟨amount 1234567 2, 7⟩, stale := true } with
      frameQueue := [frame 7 2 63 []] },
    frame 7 2 63 [], [], _, _, canonical_of_storesOk (by decide +kernel), counters_of_none rfl, ⟨rfl, rfl, rfl⟩,
    by decide +kernel, by decide +kernel, rfl, rfl, rfl, by decide +kernel⟩

/-- A frame for the own station of a LIVE sender; a BEACON of 4 bytes. -/
theorem witness_FramesHandedOn_kept : ∀ f ∈ [frame 7 2 20 [], frame 7 7 63 [0, 9, 0, 200]],
    let s := { withPeer scene livePeer with frameQueue := [f] }
    storesOk s = true ∧ s.control.running = [] ∧ s.control.mode = .running ∧ s.hand = .idle ∧
      f.sender ≠ s.control.config.station ∧ (s.peer f.sender).silenceDue = false ∧
      (({ s.peer f.sender with ageA := 0 } : PeerEntry).judge f.seq f.restart).accepted = true ∧
      (s.peer f.sender).state = .live ∧
      (f.dest ≠ 63 ∧ f.dest = s.control.config.station ∨
        f.dest = 63 ∧ (f.group = s.control.config.group ∨ f.group = 15)) := by decide +kernel

/-- Frames of each kind reach step 4. -/
theorem witness_FramesHandedOn : ∀ e ∈ [(2, []), (2, [0]), (0, []), (9, []), (10, []), (15, []),
      (1, []), (1, quotePayload), (3, [0, 47, 127, 112, 0, 88]), (3, [1, 255, 255, 112, 15, (88 : Byte)]),
      (3, [0, 48, 0, 112, 0, 88]), (3, [])],
    (inbox scene e.1 e.2).reaches (frame 7 e.1 63 e.2) (admitted scene e.1 e.2) ∧
      (frame 7 e.1 63 e.2).kind = e.1 ∧ (frame 7 e.1 63 e.2).payload = e.2 := by
  have h : ∀ e ∈ [(2, []), (2, [0]), (0, []), (9, []), (10, []), (15, []),
      (1, []), (1, quotePayload), (3, [0, 47, 127, 112, 0, 88]), (3, [1, 255, 255, 112, 15, (88 : Byte)]),
      (3, [0, 48, 0, 112, 0, 88]), (3, [])],
      (scene.control.mode = .running ∧ scene.hand = .idle ∧
        (({ scene with frameQueue := [] } : State).intake (frame 7 e.1 63 e.2)).2 = true) ∧
      (frame 7 e.1 63 e.2).kind = e.1 ∧ (frame 7 e.1 63 e.2).payload = e.2 := by decide +kernel
  intro e he
  exact ⟨reaches_inbox scene e.1 e.2 (h e he).1, (h e he).2⟩

theorem witness_FramesHandedOn_payloads : parseQuote [] = none ∧
    parseQuote quotePayload = some (1201, [⟨2, .numeric 2 1234567⟩]) ∧
    parsePaint [0, 47, 127, 112, 0, 88] = some (false, ⟨47, 127, 7, 0, attrsClear, [88]⟩) ∧
    parsePaint [1, 255, 255, 112, 15, 88] = some (true, ⟨255, 255, 7, 0, ⟨true, true, true, true⟩, [88]⟩) ∧
    (parsePaint [0, 48, 0, 112, 0, 88] = none ∧ takesPaint 0 (frame 7 3 63 [0, 48, 0, 112, 0, 88]) = true ∧
      parsePaint [] = none ∧ takesPaint 1 (frame 7 3 63 []) = true) := by
  decide +kernel

/-! ## Field table -/

/-- A match taken afresh, one conflated, one rejected, and no match. -/
theorem witness_ItemMatchesAndConflates :
    (∀ n, (withTen boundTen).counter n ≤ Config.counterTop) ∧
    (withTen boundTen).matchesOf 7 1201 2 = [10] ∧ (withTen boundTen).matchesOf 9 1201 2 = [] ∧
    ((withTen boundTen).slot 10).pending = none ∧
    suitsKind ((withTen boundTen).slot 10).format.kind (amount 1 9) = true ∧
    suitsKind ((withTen boundTen).slot 10).format.kind (amount 1 10) = false ∧
    ((withTen { boundTen with pending := some ⟨.text [65], 9, 3⟩ }).slot 10).pending.isSome = true :=
  ⟨counters_of_none rfl, by decide +kernel⟩

theorem witness_LayoutFrameAnswered :
    (inbox scene 4 bindPayload).reaches (frame 7 4 63 bindPayload) (admitted scene 4 bindPayload) ∧
    (frame 7 4 63 bindPayload).kind = kindLayout ∧
    (parseLayout (frame 7 4 63 bindPayload).payload).isSome = true ∧
    (inbox scene 4 [1, 2]).reaches (frame 7 4 63 [1, 2]) (admitted scene 4 [1, 2]) ∧
    takesLayout 2 (frame 7 4 63 [1, 2]) = true ∧ parseLayout (frame 7 4 63 [1, 2]).payload = none :=
  ⟨reaches_inbox scene 4 bindPayload (by decide +kernel), by decide +kernel, by decide +kernel,
    reaches_inbox scene 4 [1, 2] (by decide +kernel), by decide +kernel, by decide +kernel⟩

/-- Results that are all DONE, and results whose second is the first refusal. -/
theorem witness_LayoutFrameAnswered_results : ∃ job late : LayoutJob, job.remaining = [] ∧
    (∀ r ∈ job.results, r.code = .done) ∧ late.remaining = [] ∧
    (∃ before after r, late.results = before ++ r :: after ∧ (∀ x ∈ before, x.code = .done) ∧ r.code ≠ .done) :=
  ⟨⟨7, 5, [], [⟨10, .done, 1⟩]⟩, ⟨7, 5, [], [⟨10, .done, 1⟩, ⟨11, .overlap, 0⟩]⟩, rfl, by decide, rfl,
    [⟨10, .done, 1⟩], [], ⟨11, .overlap, 0⟩, rfl, by decide, by decide⟩

/-- The BIND of 3.6 as coded. -/
def bindTen : BindOp := ⟨10, 7, 1201, 2, 3, 20, 8, 0, 1, 2, 0, 5, 0, false, true, 7, 0, 0⟩

/-- `s` with this LAYOUT frame in the dispatcher's hand. -/
def layoutOf (s : State) (ops : List LayoutOp) : State := { s with hand := .layout ⟨7, 5, ops, []⟩ }

/-- The tests of R42's first row, and the kind and colour rule of the codes. -/
def bindGood (op : BindOp) (kind : FormatKind) (rule : ColourRule) : Prop :=
  (op.kindCode, kind) ∈ [(0, FormatKind.decimal), (1, .fraction), (2, .size), (3, .change), (4, .text)] ∧
  (op.ruleCode, rule) ∈ [(0, ColourRule.plain), (1, .tick), (2, .sign)] ∧
  op.source ≤ 63 ∧ op.instrument ≤ 4095 ∧ op.field ≤ 31 ∧ op.row ≤ 47 ∧ op.col ≤ 127 ∧
  1 ≤ op.width ∧ op.width ≤ 16 ∧ op.col + op.width ≤ 128 ∧ op.priority ≤ 7 ∧ op.spare = 0 ∧
  (∀ i, 3 ≤ i → op.attrs.getLsbD i = false) ∧
  (kind = .decimal ∨ kind = .change → op.places ≤ 6 ∧ op.expo = 0 ∧ op.half = false) ∧
  (kind = .fraction → 1 ≤ op.expo ∧ op.expo ≤ 8 ∧ (op.half = true → op.expo ≤ 7) ∧ op.places = 0) ∧
  (kind = .size → op.places = 0 ∧ op.expo = 0 ∧ op.half = false) ∧
  (kind = .text → op.places = 0 ∧ op.expo = 0 ∧ op.half = false ∧ op.group = false)

/-- The BIND of 3.6 at the last row and column. -/
def bindCorner : BindOp := { bindTen with row := 47, col := 112, width := 16 }

/-- A BIND that passes its first test at the last row and column, of each kind; and one that fails it. -/
theorem witness_BindCarriedOut_good : bindGood bindCorner .decimal .tick ∧
    bindGood { bindTen with kindCode := 1, places := 0, expo := 7, half := true } .fraction .tick ∧
    bindGood { bindTen with kindCode := 2, places := 0, ruleCode := 2 } .size .sign ∧
    bindGood { bindTen with kindCode := 3 } .change .tick ∧
    bindGood { bindTen with kindCode := 4, places := 0, group := false } .text .tick ∧
    ∀ kind rule, ¬ bindGood { bindTen with col := 113, width := 16 } kind rule := by
  simp [bindGood, bindCorner, bindTen]

/-- A BIND that is carried out, and one for each refusal in the order of R42's table. -/
theorem witness_BindCarriedOut :
    (∃ (s : State) (job : LayoutJob) (good : FormatKind → ColourRule → Prop), s.control.mode = .running ∧
      s.hand = .layout job ∧ job.remaining = [.bind bindCorner] ∧
      (∀ kind rule, good kind rule ↔ bindGood bindCorner kind rule) ∧ good .decimal .tick ∧
      s.control.config.crawlRow ≠ some bindCorner.row ∧
      (∀ i ∈ bindCorner.place.cells, ∀ m, s.ownerOf i = .slot m → m = bindCorner.slot) ∧
      (s.slot bindCorner.slot).bound = false) ∧
    (crawling.control.config.crawlRow = some ({ bindTen with row := 47 } : BindOp).row) ∧
    ((withTen boundTen).ownerOf 404 = .slot 10 ∧ 404 ∈ ({ bindTen with slot := 11 } : BindOp).place.cells) ∧
    ((withTen boundTen).slot 10).bound = true ∧
      ∀ i ∈ bindTen.place.cells, (withTen boundTen).ownerOf i = .slot 10 := by
  refine ⟨⟨layoutOf scene [.bind bindCorner], ⟨7, 5, [.bind bindCorner], []⟩, bindGood bindCorner, rfl, rfl, rfl,
    fun _ _ => Iff.rfl, witness_BindCarriedOut_good.1, by decide +kernel, ?_, by decide +kernel⟩, by decide +kernel⟩
  intro i _ m h
  have : Owner.none = .slot m := h
  cases this

theorem witness_UnbindAndLevel :
    (layoutOf (withTen boundTen) [.unbind 10]).control.mode = .running ∧
    ((withTen boundTen).slot 10).bound = true ∧ ((withTen boundTen).slot 255).bound = false ∧
    (layoutOf (withTen boundTen) [.level 10 7]).hand = .layout ⟨7, 5, [.level 10 7], []⟩ ∧
    (layoutOf (withTen boundTen) [.level 10 8]).hand = .layout ⟨7, 5, [.level 10 8], []⟩ := by decide +kernel

/-! ## Text writer -/

/-- A fill up to column 127, with no operation after it, and with one. -/
theorem witness_BindFillApplied : ∀ more ∈ [[], [LayoutOp.unbind 10]], ∃ (s : State) (place : Placement)
    (base : Base) (job : LayoutJob), s.OverlayLaw ∧ s.control.mode = .running ∧ s.port.holder = some .text ∧
      s.text = some (.fill place base) ∧ s.hand = .layoutFill job ∧ job.remaining = more ∧
      place.col + place.width = 128 :=
  fun more _ => ⟨{ runGranted scene (.fill ⟨47, 112, 16⟩ Slot.cold.base) with
      hand := .layoutFill ⟨7, 5, more, [⟨10, .done, 1⟩]⟩ },
    ⟨47, 112, 16⟩, Slot.cold.base, ⟨7, 5, more, [⟨10, .done, 1⟩]⟩,
    overlayLaw_of_closed ⟨rfl, rfl, rfl⟩ (by intro op r h; cases h), rfl, rfl, rfl, rfl, rfl, rfl⟩

/-- A run over unowned cells, owned cells and beyond column 127. -/
theorem witness_BaseRunApplied : ∃ (s : State) (r : Run) (f : RxFrame), s.OverlayLaw ∧
    (∀ n, s.counter n ≤ Config.counterTop) ∧ s.control.mode = .running ∧ s.port.holder = some .text ∧
      s.text = some (.base r) ∧ s.hand = .paint f ∧ r.col + r.glyphs.length = 129 ∧
      s.ownerOf (cellKey r.row r.col) = .none ∧ s.ownerOf 404 = .slot 10 ∧ cellKey r.row (r.col + 1) = 404 :=
  ⟨runGranted (withTen boundTen) (.base ⟨3, 19, 7, 0, attrsClear, List.replicate 110 88⟩), _, _,
    overlayLaw_of_closed (by decide +kernel) (by intro op r h; cases h), counters_of_none rfl, rfl, rfl, rfl, rfl,
    by decide +kernel, by decide +kernel, by decide +kernel, by decide +kernel⟩

/-- No level open; the last interior place of the level of 6.3; the first row beyond it. -/
theorem witness_TopRunApplied :
    (∃ (s : State) (r : Run) (f : RxFrame) (next : Option Writer), s.control.mode = .running ∧
      s.port.holder = some .text ∧ s.text = some (.top r) ∧ s.hand = .paint f ∧
      next = grantOrder s.overlay.request.isSome s.crawl.request s.paint.isSome false ∧ s.overlay.levels = []) ∧
    ∃ (s : State) (r : Run) (f : RxFrame) (next : Option Writer), s.control.mode = .running ∧
      s.port.holder = some .text ∧ s.text = some (.top r) ∧ s.hand = .paint f ∧
      next = grantOrder s.overlay.request.isSome s.crawl.request s.paint.isSome false ∧
      s.overlay.levels = [] ++ [levelOne] ∧
      r.row + 1 = levelOne.height - 2 ∧ r.col + 1 = levelOne.width - 2 :=
  ⟨⟨runGranted scene (.top ⟨0, 0, 7, 0, attrsClear, [88]⟩), _, _, _, rfl, rfl, rfl, rfl, rfl, rfl⟩,
    runGranted { scene with overlay := { scene.overlay with levels := [levelOne], used := 120 } }
      (.top ⟨3, 17, 7, 0, attrsClear, [88, 89]⟩), _, _, _, rfl, rfl, rfl, rfl, rfl, rfl, by decide, by decide⟩

/-! ## Overlay unit -/

/-- An OPEN reaches step 4 and passes at the edges of the screen. -/
theorem witness_OpenTested : ∃ (s u : State) (f : RxFrame) (op : OpenOp), s.judges f u ∧ f.kind = kindOverlay ∧
    parseOverlay f.payload = some (.openLevel op) ∧ u.overlay.request = none ∧ u.overlay.levels.length < 8 ∧
    op.top + op.height = 48 ∧ op.left + op.width = 128 ∧ op.height = 3 ∧ op.width = 3 ∧ op.flags = 1 :=
  ⟨inbox scene 5 [1, 45, 125, 3, 3, 1, 112], admitted scene 5 [1, 45, 125, 3, 3, 1, 112], _,
    ⟨45, 125, 3, 3, 1, 7, 0⟩, .inl (reaches_inbox scene 5 [1, 45, 125, 3, 3, 1, 112] (by decide +kernel)),
    by decide +kernel⟩

/-- An OPEN reaches step 4 with one coordinate out of its range, or a border that does not fit. -/
theorem witness_OpenTested_range : ∀ e ∈ [[1, 48, 0, 1, 1, 0, 112], [1, 0, 128, 1, 1, 0, 112],
      [1, 0, 0, 0, 1, 0, 112], [1, 0, 0, 47, 1, 0, 112], [1, 0, 0, 1, 0, 0, 112], [1, 0, 0, 1, 129, 0, 112],
      [1, 46, 0, 3, 1, 0, 112], [1, 0, 126, 1, 3, 0, 112], [1, 0, 0, 2, 3, 1, 112], [1, 0, 0, 3, 2, 1, 112],
      [1, 0, 0, 1, 1, 2, (112 : Byte)]],
    (inbox scene 5 e).judges (frame 7 5 63 e) (admitted scene 5 e) ∧ (frame 7 5 63 e).kind = kindOverlay ∧
      (admitted scene 5 e).overlay.request = none ∧ (admitted scene 5 e).overlay.levels.length < 8 ∧
      ∃ op, parseOverlay (frame 7 5 63 e).payload = some (.openLevel op) ∧
        ¬ (op.top ≤ 47 ∧ op.left ≤ 127 ∧ 1 ≤ op.height ∧ op.height ≤ 46 ∧ 1 ≤ op.width ∧ op.width ≤ 128 ∧
          op.top + op.height ≤ 48 ∧ op.left + op.width ≤ 128 ∧
          (op.flags = 0 ∨ op.flags = 1 ∧ 3 ≤ op.height ∧ 3 ≤ op.width)) := by
  have h : ∀ e ∈ [[1, 48, 0, 1, 1, 0, 112], [1, 0, 128, 1, 1, 0, 112],
        [1, 0, 0, 0, 1, 0, 112], [1, 0, 0, 47, 1, 0, 112], [1, 0, 0, 1, 0, 0, 112], [1, 0, 0, 1, 129, 0, 112],
        [1, 46, 0, 3, 1, 0, 112], [1, 0, 126, 1, 3, 0, 112], [1, 0, 0, 2, 3, 1, 112], [1, 0, 0, 3, 2, 1, 112],
        [1, 0, 0, 1, 1, 2, (112 : Byte)]],
      (scene.control.mode = .running ∧ scene.hand = .idle ∧
        (({ scene with frameQueue := [] } : State).intake (frame 7 5 63 e)).2 = true) ∧
      (frame 7 5 63 e).kind = kindOverlay ∧ (admitted scene 5 e).overlay.request = none ∧
      (admitted scene 5 e).overlay.levels.length < 8 ∧
      (match parseOverlay (frame 7 5 63 e).payload with
        | some (.openLevel op) => !decide (op.top ≤ 47 ∧ op.left ≤ 127 ∧ 1 ≤ op.height ∧ op.height ≤ 46 ∧
            1 ≤ op.width ∧ op.width ≤ 128 ∧ op.top + op.height ≤ 48 ∧ op.left + op.width ≤ 128 ∧
            (op.flags = 0 ∨ op.flags = 1 ∧ 3 ≤ op.height ∧ 3 ≤ op.width))
        | _ => false) = true := by decide +kernel
  intro e he
  obtain ⟨h1, h2, h3, h4, h5⟩ := h e he
  refine ⟨.inl (reaches_inbox scene 5 e h1), h2, h3, h4, ?_⟩
  split at h5
  next op hop => exact ⟨op, hop, of_decide_eq_false (by simpa only [Bool.not_eq_true'] using h5)⟩
  next => cases h5

/-- `scene` with this OVERLAY frame waiting in the dispatcher's hand, and no request in hand any more (R114). -/
def waitedWith (payload : List Byte) : State := { scene with hand := .overlayWait (frame 7 5 63 payload) }

/-- An OPEN, a CLOSE and a CLOSE_ALL that have waited for the overlay unit. -/
theorem witness_OpenTested_waited : ∀ e ∈ [[1, 45, 125, 3, 3, 1, 112], [2], [(3 : Byte)]], ∃ u : State,
    (waitedWith e).judges (frame 7 5 63 e) u ∧ u.overlay.request = none :=
  fun _ _ => ⟨_, .inr ⟨rfl, rfl, rfl, rfl⟩, rfl⟩

/-- The other outcomes: a full stack, a full save area, and a crawl row at the last row of an OPEN. -/
theorem witness_OpenTested_refused :
    (∃ u : State, u.overlay.levels.length = 8 ∧ u.overlay.request = none) ∧
    (∃ u : State, u.overlay.used + 16 * 128 = 2049 ∧ u.overlay.request = none) ∧
    ∃ row, crawling.control.config.crawlRow = some row ∧ 45 ≤ row ∧ row < 45 + 3 :=
  ⟨⟨{ scene with overlay := { scene.overlay with levels := List.replicate 8 levelDot, used := 8 } }, by decide⟩,
    ⟨dotOpen none, by decide⟩, 47, by decide⟩

theorem witness_CloseTested :
    (∀ e ∈ [[2], [3], [1], [(0 : Byte)]], (inbox scene 5 e).judges (frame 7 5 63 e) (admitted scene 5 e) ∧
      (frame 7 5 63 e).kind = kindOverlay ∧ (admitted scene 5 e).overlay.request = none ∧
      (admitted scene 5 e).overlay.levels = []) ∧
    (parseOverlay [2] = some .close ∧ parseOverlay [3] = some .closeAll ∧ parseOverlay [1] = none ∧
      takesOverlay 1 (frame 7 5 63 [1]) = true ∧ takesOverlay 3 (frame 7 5 63 [0]) = true) ∧
    (inbox (dotOpen none) 5 [2]).judges (frame 7 5 63 [2]) (admitted (dotOpen none) 5 [2]) ∧
    (admitted (dotOpen none) 5 [2]).overlay.levels ≠ [] ∧
    (inbox (dotOpen (some .orphan)) 5 [2]).reaches (frame 7 5 63 [2]) (admitted (dotOpen (some .orphan)) 5 [2]) ∧
    takesOverlay 2 (frame 7 5 63 [2]) = true ∧ (admitted (dotOpen (some .orphan)) 5 [2]).overlay.request ≠ none := by
  have h : ∀ e ∈ [[2], [3], [1], [(0 : Byte)]],
      (scene.control.mode = .running ∧ scene.hand = .idle ∧
        (({ scene with frameQueue := [] } : State).intake (frame 7 5 63 e)).2 = true) ∧
      (frame 7 5 63 e).kind = kindOverlay ∧ (admitted scene 5 e).overlay.request = none ∧
      (admitted scene 5 e).overlay.levels = [] := by decide +kernel
  exact ⟨fun e he => ⟨.inl (reaches_inbox scene 5 e (h e he).1), (h e he).2⟩, by decide +kernel,
    .inl (reaches_inbox (dotOpen none) 5 [2] (by decide +kernel)), by decide +kernel,
    reaches_inbox (dotOpen (some .orphan)) 5 [2] (by decide +kernel), by decide +kernel⟩

/-- A granted OPEN of a bordered level, of the frame in the dispatcher's hand. -/
theorem witness_OpenApplied : ∃ (s : State) (op : OpenOp) (requester : Nat), s.OverlayLaw ∧
    s.port.holder = some .overlay ∧ s.overlay.request = some (.openLevel op requester) ∧
    s.control.mode = .running ∧ s.hand = .overlayUnit 4 5 ∧ op.flags = 1 ∧ op.height = 3 :=
  ⟨{ openGranted with hand := .overlayUnit 4 5 }, ⟨5, 10, 3, 4, 1, 7, 0⟩, 4, overlayLaw_of_closed (by decide +kernel) (by
    intro op r h
    have h' : some (OverlayRequest.openLevel ⟨5, 10, 3, 4, 1, 7, 0⟩ 4) = some (.openLevel op r) := h
    cases h'
    decide +kernel), rfl, rfl, rfl, rfl, rfl, rfl⟩

/-- The one-cell level meets the laws of the stack. -/
theorem dotOpen_overlayLaw (request : Option OverlayRequest)
    (h : ∀ op requester, request ≠ some (.openLevel op requester)) : (dotOpen request).OverlayLaw where
  depth := by simp [dotOpen]
  used := rfl
  fits := by simp [dotOpen]
  level := by
    intro k lv hk
    match k with
    | 0 =>
      have : levelDot = lv := by simpa [dotOpen] using hk
      subst this
      refine ⟨?_, ?_, ?_, ?_, ?_, rfl⟩ <;> decide
    | k + 1 => simp [dotOpen] at hk
  uncovered := by
    intro i hi lv hl
    have : lv = levelDot := by simpa [dotOpen] using hl
    subst this
    simp only [State.coverOf, dotOpen, storeGet] at hi
    simp only [Level.contains, levelDot]
    split at hi <;> omega
  covered := by
    intro i k hi
    simp only [State.coverOf, dotOpen, storeGet] at hi
    split at hi
    · have hk : k = 0 := by omega
      have h0 : i = 0 := by omega
      subst hk h0
      exact ⟨⟨levelDot, rfl, by simp [Level.contains, levelDot]⟩, fun j lv hj => by omega⟩
    · omega
  inHand := fun op r hr => absurd hr (h op r)

/-- The laws of the stack speak of the overlay unit, the cover map and the configuration alone. -/
theorem overlayLaw_of_same {s t : State} (h : s.OverlayLaw)
    (ho : t.overlay = s.overlay ∧ t.store.cover = s.store.cover ∧ t.control.config = s.control.config) :
    t.OverlayLaw := by
  obtain ⟨h1, h2, h3⟩ := ho
  have hc : ∀ i, t.coverOf i = s.coverOf i := fun i => by simp [State.coverOf, h2]
  exact
    { depth := h1 ▸ h.depth, used := h1 ▸ h.used, fits := h1 ▸ h.fits, level := h1 ▸ h.level
      uncovered := fun i => hc i ▸ h1 ▸ h.uncovered i
      covered := fun i k => hc i ▸ h1 ▸ h.covered i k
      inHand := by
        intro op r hr
        have := h.inHand op r (h1 ▸ hr)
        simpa [State.openTest, h1, h3] using this }

/-- The one-cell level open, this request granted, and the frame of it in the dispatcher's hand. -/
def dotGranted (request : OverlayRequest) : State :=
  { dotOpen (some request) with hand := .overlayUnit 7 5 }

theorem witness_CloseApplied : ∃ (s : State) (below : List Level) (lv : Level), s.Canonical ∧ s.OverlayLaw ∧
    s.overlay.levels = below ++ [lv] ∧ s.port.holder = some .overlay ∧ s.overlay.request = some .close ∧
    s.control.mode = .running ∧ s.hand = .overlayUnit 7 5 :=
  ⟨dotGranted .close, [], levelDot, canonical_of_storesOk (by decide +kernel),
    overlayLaw_of_same (dotOpen_overlayLaw (some .close) (by intro op r h; cases h)) ⟨rfl, rfl, rfl⟩,
    rfl, rfl, rfl, rfl, rfl⟩

theorem witness_StackUnwound :
    (∃ (s : State) (c : Instr), s.Canonical ∧ s.OverlayLaw ∧ s.port.holder = some .overlay ∧
      (c = .closeAllUnit ∧ s.overlay.request = some .closeAll) ∧ s.control.mode = .running ∧
      s.hand = .overlayUnit 7 5) ∧
    ∃ (s : State) (c : Instr), s.Canonical ∧ s.OverlayLaw ∧ s.port.holder = some .overlay ∧
      (c = .unwinding ∧ s.overlay.request = some .unwinding) ∧ s.control.mode = .unwinding ∧
      s.crawl.request = false ∧ s.paint = none ∧ s.text = none :=
  ⟨⟨dotGranted .closeAll, .closeAllUnit, canonical_of_storesOk (by decide +kernel),
      overlayLaw_of_same (dotOpen_overlayLaw (some .closeAll) (by intro op r h; cases h)) ⟨rfl, rfl, rfl⟩,
      rfl, ⟨rfl, rfl⟩, rfl, rfl⟩,
    dotUnwinding, .unwinding, canonical_of_storesOk (by decide +kernel),
    overlayLaw_of_same (dotOpen_overlayLaw (some .unwinding) (by intro op r h; cases h)) ⟨rfl, rfl, rfl⟩,
    rfl, ⟨rfl, rfl⟩, rfl, rfl, rfl, rfl⟩

/-- At the grant: a level whose requester is SILENT, over none; and one whose requester is LIVE again. -/
theorem witness_OrphansClosed :
    (∃ (s : State) (kept closed : List Level), s.overlay.request = some .orphan ∧
      s.overlay.levels = kept ++ closed ∧ closed ≠ [] ∧
      (∀ lv ∈ closed, (s.peer lv.requester).state = .silent) ∧
      ∀ lv, kept.getLast? = some lv → (s.peer lv.requester).state ≠ .silent) ∧
    ∃ (s : State) (kept closed : List Level), s.overlay.request = some .orphan ∧
      s.overlay.levels = kept ++ closed ∧ closed = [] ∧
      ∀ lv, kept.getLast? = some lv → (s.peer lv.requester).state ≠ .silent := by
  refine ⟨⟨withPeer (dotOpen (some .orphan)) { livePeer with state := .silent }, [], [levelDot], rfl, rfl, by simp,
    by decide, by simp⟩, withPeer (dotOpen (some .orphan)) livePeer, [levelDot], [], rfl, rfl, rfl, ?_⟩
  intro lv h
  have : levelDot = lv := by simpa using h
  subst this
  decide

/-- At the unit's end: the level is to be closed, and no level is. -/
theorem witness_OrphansClosed_applied : ∀ e ∈ [([], [levelDot]), ([levelDot], [])],
    ∃ s : State, s.Canonical ∧ s.OverlayLaw ∧ s.control.mode = .running ∧
      s.port = { holder := some .overlay, decided := .closes e.2.length } ∧
      s.overlay.request = some .orphan ∧ s.overlay.levels = e.1 ++ e.2 := by
  intro e he
  refine ⟨{ dotOpen (some .orphan) with port := { holder := some .overlay, decided := .closes e.2.length } },
    canonical_of_storesOk (show storesOk (dotOpen (some .orphan)) = true by decide +kernel),
    overlayLaw_of_same (dotOpen_overlayLaw (some .orphan) (by intro op r h; cases h)) ⟨rfl, rfl, rfl⟩,
    rfl, rfl, rfl, ?_⟩
  simp only [List.mem_cons, List.not_mem_nil, or_false] at he
  obtain rfl | rfl := he <;> rfl

/-! ## Group timer and crawl engine -/

/-- The third frame of 8.9, in view; and a frame with the crawl off. -/
theorem witness_CrawlPlaced : ∃ (s u : State) (f : RxFrame) (c : CrawlText) (row : Nat), s.reaches f u ∧
    f.kind = kindCrawl ∧ parseCrawl f.payload = some c ∧ c.glyphs.length ≤ 1024 ∧ u.crawl.tickDue = false ∧
    (∀ n, u.counter n ≤ Config.counterTop) ∧ u.control.config.crawlRow = some row ∧ u.control.mode = .running ∧
    ∃ j, j < c.glyphs.length ∧ 128 ≤ (c.first + BitVec.ofNat 16 j - u.crawl.p).toNat ∧
      (c.first + BitVec.ofNat 16 j - u.crawl.p).toNat ≤ 255 :=
  ⟨inbox tileOne 6 [0, 130, 112, 0, 65, 66, 67], admitted tileOne 6 [0, 130, 112, 0, 65, 66, 67], _,
    ⟨130, 7, 0, attrsClear, [65, 66, 67]⟩, 47,
    reaches_inbox tileOne 6 [0, 130, 112, 0, 65, 66, 67] (by decide +kernel), by decide +kernel, by decide +kernel,
    by decide, by decide +kernel, counters_of_none (by decide +kernel), by decide +kernel, by decide +kernel, 0,
    by decide +kernel⟩

/-- The first frame of 8.9: ten glyphs dropped, ten stored, none in view. -/
theorem witness_CrawlPlaced_unseen :
    let payload := [255, 240, 112, 0] ++ List.replicate 20 65
    (inbox tileOne 6 payload).reaches (frame 7 6 63 payload) (admitted tileOne 6 payload) ∧
    parseCrawl (frame 7 6 63 payload).payload = some ⟨65520, 7, 0, attrsClear, List.replicate 20 65⟩ ∧
    ∀ j < 20, ¬(128 ≤ ((65520 : BitVec 16) + BitVec.ofNat 16 j - (admitted tileOne 6 payload).crawl.p).toNat ∧
      ((65520 : BitVec 16) + BitVec.ofNat 16 j - (admitted tileOne 6 payload).crawl.p).toNat ≤ 255) :=
  ⟨reaches_inbox tileOne 6 _ (by decide +kernel), by decide +kernel⟩

theorem witness_CrawlPlaced_off : (inbox scene 6 [0, 130, 112, 0, 65]).reaches
      (frame 7 6 63 [0, 130, 112, 0, 65]) (admitted scene 6 [0, 130, 112, 0, 65]) ∧
    (admitted scene 6 [0, 130, 112, 0, 65]).control.config.crawlRow = none :=
  ⟨reaches_inbox scene 6 [0, 130, 112, 0, 65] (by decide +kernel), by decide +kernel⟩

/-- A CRAWL frame without a glyph has not the layout. -/
theorem witness_CrawlPlaced_unusable : (inbox tileOne 6 [0, 130, 112, 0]).reaches
      (frame 7 6 63 [0, 130, 112, 0]) (admitted tileOne 6 [0, 130, 112, 0]) ∧
    (frame 7 6 63 [0, 130, 112, 0]).kind = kindCrawl ∧
    parseCrawl (frame 7 6 63 [0, 130, 112, 0]).payload = none ∧
    (admitted tileOne 6 [0, 130, 112, 0]).crawl.tickDue = false :=
  ⟨reaches_inbox tileOne 6 [0, 130, 112, 0] (by decide +kernel), by decide +kernel⟩

/-- A painter of station 20 that hears a BEACON of its group from station 7, which is its reference then. -/
theorem witness_BeaconAdopted : ∃ (s u : State) (f : RxFrame) (phase p : BitVec 16), s.reaches f u ∧
    f.kind = kindBeacon ∧ u.Canonical ∧ parseBeacon f.payload = some (phase, p) ∧ u.group.timing = .following ∧
    u.group.reference = f.sender ∧ u.crawl.tickDue = false ∧ u.group.countdown ≠ 0 ∧ u.group.phase ≠ phase ∧
    u.crawl.p ≠ p ∧ u.crawlEnabled = true ∧ u.control.mode = .running :=
  ⟨inbox tileOne 7 [0, 9, 0, 200], admitted tileOne 7 [0, 9, 0, 200], _, 9, 200,
    reaches_inbox tileOne 7 [0, 9, 0, 200] (by decide +kernel), by decide +kernel,
    canonical_of_storesOk (by decide +kernel), by decide +kernel⟩

/-- A BEACON of 3 bytes; and one from station 30, when station 20 leads. -/
theorem witness_BeaconAdopted_other :
    (inbox scene 7 [0, 9, 0]).reaches (frame 7 7 63 [0, 9, 0]) (admitted scene 7 [0, 9, 0]) ∧
    parseBeacon (frame 7 7 63 [0, 9, 0]).payload = none ∧
    ∃ s u f, State.reaches s f u ∧ f.kind = kindBeacon ∧ (parseBeacon f.payload).isSome = true ∧
      u.group.timing ≠ .following :=
  ⟨reaches_inbox scene 7 [0, 9, 0] (by decide +kernel), by decide +kernel,
    { scene with frameQueue := [frame 30 7 63 [0, 9, 0, 200]] },
    (({ scene with frameQueue := [] } : State).intake (frame 30 7 63 [0, 9, 0, 200])).1, frame 30 7 63 [0, 9, 0, 200],
    ⟨[], ⟨rfl, rfl, rfl⟩, Prod.ext rfl (by decide +kernel)⟩, by decide +kernel⟩

/-- A step called for; a BEACON due with an earlier one waiting, with room, with a full queue, inhibited. -/
theorem witness_TickAnswered :
    let b : TxFrame := { waitingReply 50 with kind := .beacon, dest := 63 }
    (∀ s ∈ [{ crawling with crawl := { crawling.crawl with tickDue := true } }],
      s.control.mode = .running ∧ s.crawl.tickDue = true ∧ s.crawlEnabled = true ∧ s.crawl.request = false) ∧
    (∀ s ∈ [[waitingReply 49, b], [waitingReply 49], List.replicate 4 (waitingReply 49)].map (fun frames =>
        ({ transmitting frames (.gap 24) 0 0 with group := { scene.group with countdown := 0 } } : State)),
      s.control.mode = .running ∧ s.group.countdown = 0 ∧ s.crawl.tickDue = false ∧ s.inhibited = false) ∧
    (b.kind = .beacon ∧ b.sendA = .waiting ∧ b.sendB = .waiting) ∧
    (let s := { scene with group := { scene.group with countdown := 0 },
                           control := { scene.control with clock := .backup } };
      s.control.mode = .running ∧ s.group.countdown = 0 ∧ s.crawl.tickDue = false ∧ s.inhibited = true) := by
  decide +kernel

theorem witness_CrawlRowRepainted : ∀ again ∈ [true, false], ∃ (s : State) (row : Nat) (cells : List Cell),
    s.control.mode = .running ∧ s.control.config.crawlRow = some row ∧
    s.port = { holder := some .crawl, decided := .row cells } ∧ cells.length = 128 ∧
    s.crawl.repeatMark = again :=
  fun again _ => ⟨{ crawling with
      crawl := { crawling.crawl with request := true, repeatMark := again }
      port := { holder := some .crawl, decided := .row (List.replicate 128 cellBlank) } },
    47, List.replicate 128 cellBlank, rfl, rfl, rfl, by simp, rfl⟩

/-- The BEACON of station 7 is as old as the limit, and its lapse is due. -/
def lapsed : State :=
  withPeer scene { livePeer with painter := true, beaconGroup := 2, beaconAge := 90, lapseDue := true }

/-- The lapse of station 7: the candidate set is the own station alone. -/
theorem witness_ElectionNamesLowest : ∃ (s : State) (p : Nat) (candidate : Nat → Prop), p < 63 ∧
    s.control.mode = .running ∧ (s.peer p).lapseDue = true ∧
    (∀ q, candidate q ↔ q < 63 ∧
      ((s.peer q).painter = true ∧ (s.peer q).beaconGroup = s.control.config.group ∧
          (s.peer q).beaconAge < 3 * s.control.config.interval ∨
        q = s.control.config.station ∧ s.control.valid = true ∧ s.control.clock = .reference)) ∧
    candidate 20 ∧ ∀ r, r < 20 → ¬ candidate r := by
  refine ⟨lapsed, 7, _, by decide, rfl, by decide, fun q => Iff.rfl, by decide +kernel, ?_⟩
  intro r hr
  have h : ∀ r < 20, ¬(r < 63 ∧
      ((lapsed.peer r).painter = true ∧ (lapsed.peer r).beaconGroup = lapsed.control.config.group ∧
          (lapsed.peer r).beaconAge < 3 * lapsed.control.config.interval ∨
        r = lapsed.control.config.station ∧ lapsed.control.valid = true ∧ lapsed.control.clock = .reference)) := by
    decide +kernel
  exact h r hr

/-! ## Paint unit -/

/-- A slot that offers a restyle; one that offers a paint; a muted one that offers nothing. -/
theorem witness_PaintUnitChooses :
    (∀ r ∈ [{ boundTen with restyle := true }, { boundTen with pending := some ⟨amount 1 0, 7, 0⟩ },
        { boundTen with pending := some ⟨amount 1 0, 7, 0⟩, priority := 0 }],
      (withTen r).control.mode = .running ∧ (withTen r).paint = none ∧ ((withTen r).slot 10).bound = true) ∧
    ((withTen { boundTen with restyle := true }).slot 10).restyle = true ∧
    (∀ m < 10, ((withTen { boundTen with restyle := true }).slot m).restyle = false) ∧
    (∀ n < 256, ((withTen { boundTen with pending := some ⟨amount 1 0, 7, 0⟩ }).slot n).restyle = false) ∧
    ∀ m < 256, m ≠ 10 →
      ((withTen { boundTen with pending := some ⟨amount 1 0, 7, 0⟩ }).slot m).pending = none := by decide +kernel

/-- A paint at its grant: a slot of its generation, from a LIVE source, as a change under TICK; and one bound again
since. -/
theorem witness_PaintCompletes : ∃ s : State, s.paint = some (.paint 10 1 (amount 1234610 2) 7 0) ∧
    (s.slot 10).bound = true ∧ (s.slot 10).generation = 1 ∧ (s.peer 7).state = .live ∧
    (s.slot 10).rule = .tick ∧ (tickOf (s.slot 10).direction (s.slot 10).shown (amount 1234610 2)).2 = true :=
  ⟨{ withPeer (withTen { boundTen with shown := some ⟨amount 1234580 2, 7⟩ }) livePeer with
      paint := some (.paint 10 1 (amount 1234610 2) 7 0) }, rfl, by decide +kernel⟩

/-- At its unit's end: a paint that its grant carried out, and one that it abandoned. -/
theorem witness_PaintCompletes_applied :
    (∃ s : State, s.OverlayLaw ∧ (∀ k, s.counter k ≤ Config.counterTop) ∧ s.control.mode = .running ∧
      s.port.holder = some .paint ∧ s.paint = some (.paint 10 1 (amount 1234610 2) 7 0) ∧
      ∃ r, s.port.decided = .slot r) ∧
    ∃ s : State, s.OverlayLaw ∧ (∀ k, s.counter k ≤ Config.counterTop) ∧ s.control.mode = .running ∧
      s.port.holder = some .paint ∧ s.paint = some (.paint 10 0 (amount 1234610 2) 7 0) ∧
      s.port.decided = .abandoned :=
  ⟨⟨paintGranted boundTen (.paint 10 1 (amount 1234610 2) 7 0),
      overlayLaw_of_closed (by decide +kernel) (by intro op r h; cases h), counters_of_none rfl, rfl, rfl, rfl,
      _, rfl⟩,
    paintGranted boundTen (.paint 10 0 (amount 1234610 2) 7 0),
      overlayLaw_of_closed (by decide +kernel) (by intro op r h; cases h), counters_of_none rfl, rfl, rfl, rfl, rfl⟩

/-- At its unit's end: a restyle that its grant carried out, and one that it abandoned. -/
theorem witness_RestyleCompletes :
    (∃ s : State, s.OverlayLaw ∧ s.control.mode = .running ∧ s.port.holder = some .paint ∧
      s.paint = some (.restyle 10 1) ∧ s.port.decided = .slot boundTen) ∧
    ∃ s : State, s.OverlayLaw ∧ s.control.mode = .running ∧ s.port.holder = some .paint ∧
      s.paint = some (.restyle 10 0) ∧ s.port.decided = .abandoned :=
  ⟨⟨paintGranted boundTen (.restyle 10 1),
      overlayLaw_of_closed (by decide +kernel) (by intro op r h; cases h), rfl, rfl, rfl, rfl⟩,
    paintGranted boundTen (.restyle 10 0),
      overlayLaw_of_closed (by decide +kernel) (by intro op r h; cases h), rfl, rfl, rfl, rfl⟩

/-- A restyle at its grant, of its generation and of an earlier one. -/
theorem witness_RestyleCompletes_granted :
    let s := fun g => { withTen boundTen with paint := some (.restyle 10 g) }
    (s 1).paint = some (.restyle 10 1) ∧ ((s 1).slot 10).bound = true ∧ ((s 1).slot 10).generation = 1 ∧
      (s 0).paint = some (.restyle 10 0) ∧ ((s 0).slot 10).generation ≠ 0 := by decide +kernel

/-- Each stage at its end, while RUNNING and while LOADING, and a FLASH with a fade step of 0. -/
theorem witness_HighlightMovesOn :
    (∀ st ∈ [Stage.flash, .fade1, .fade2, .fade3], ∀ mode ∈ [Mode.running, .loading],
      let v := withTen { boundTen with highlight := ⟨st, 0, false⟩ }
      let s := { v with control := { v.control with mode := mode } }
      s.control.mode ≠ .held ∧ (s.slot 10).highlight.stage = st ∧ (s.slot 10).highlight.remaining = 0 ∧
        1 ≤ s.control.config.fade) ∧
    (configured { scene.control.config with fade := 0 }).control.config.fade = 0 ∧
    (scene.slot 255).highlight.stage = .none ∧ scene.control.mode ≠ .held := by decide +kernel

/-- A granted unit, while a command of the peer table runs. -/
theorem witness_PaintUnitChooses_held : ∃ (s t : State) (c : Instr), exec c s = .next t ∧ s.port.holder ≠ none ∧
    c ∉ [.bindFill, .baseRun, .topRun, .openUnit, .closeUnit, .closeAllUnit, .orphanClose, .unwinding,
      .paintCompletion, .restyleCompletion, .crawlRepaint] ∧ ∀ image, c ≠ .loadingComplete image :=
  ⟨paintGranted boundTen (.restyle 10 1), _, .silenceEvent 7, rfl, by decide, by decide, by intro i h; cases h⟩

/-- Rescaling with d = s, d = s + 6 and d = s − 1, an exact half below zero; and the three outcomes of a tick. -/
theorem witness_RescaleAndTickExact : rescale (-5) 3 3 = -5 ∧ rescale 7 0 6 = 7000000 ∧ rescale (-5) 3 2 = -1 ∧
    tickOf .up (some ⟨amount 1234610 2, 7⟩) (amount 12346100 3) = (.up, false) ∧
    tickOf .up (some ⟨amount 12346100 3, 7⟩) (amount 12345000 3) = (.down, true) ∧
    tickOf .down (some ⟨amount 12345000 3, 7⟩) (amount 12345004 3) = (.up, true) := by decide +kernel

/-- Values of each kind: a TEXT value; a DECIMAL value whose grouped form fits, whose plain form alone fits, and
that overflows; a SIZE value that takes its third string; a FRACTION that rounds up to the next whole number. -/
theorem witness_FormatterFits :
    (formatValue ⟨.text, 0, 0, false, false⟩ 5 (.text [65, 66, 67])).glyphs = [65, 66, 67, 32, 32] ∧
    (formatValue ⟨.decimal, 2, 0, false, true⟩ 9 (amount 1234567 2)).glyphs =
      decimalString false 2 (rescale 1234567 2 2) true ∧
    (formatValue ⟨.decimal, 2, 0, false, true⟩ 8 (amount 1234567 2)).glyphs =
      decimalString false 2 (rescale 1234567 2 2) false ∧
    (formatValue ⟨.decimal, 2, 0, false, true⟩ 7 (amount 1234567 2)).overflow = true ∧
    (formatValue ⟨.size, 0, 0, false, true⟩ 5 (amount 1234567 0)).glyphs = [49, 50, 51, 52, 75] ∧
    (formatValue ⟨.size, 0, 0, false, true⟩ 1 (amount 1234567 0)).overflow = true ∧
    (2 * (Int.natAbs (-999) % 10 ^ 3) * 2 ^ 3 + 10 ^ 3) / (2 * 10 ^ 3) = 2 ^ 3 ∧
    digits (10 ^ 40 - 1) = List.replicate 40 57 := by decide +kernel

/-! ## Frame starts and the screen -/

/-- The painter after these commands, in order. -/
def afterAll (s : State) (cs : List Instr) : State := cs.foldl (fun u c => after c u) s

/-- The image of a painter of station 20 and group 2 without a crawl row. -/
def imageTwenty : List Byte :=
  let b : List Byte := [0xC5, 20, 2, 0] ++ List.replicate 32 0 ++ [10, 12, 2, 4, 8, 1, 5, 6, 14, 15, 1] ++
    [30, 8, 60, 16, 30, 255, 0, 1, 1] ++ List.replicate 6 0
  b ++ bytes16 (BitVec.ofNat 16 (b.map BitVec.toNat).sum)

/-- A run from reset: LOADING, CLEARING, RUNNING; a BIND frame, whose fill unit is granted; HELD; UNWINDING, which
waits for that unit. -/
def runLoading : State := after (.heldEnd false true) State.reset
def runClearing : State := after (.loadingComplete imageTwenty) runLoading
def runRunning : State := after .clearingComplete runClearing
def runBound (running : State) : State :=
  afterAll running [.carrierArrival .a, .frameEnd .a (onLine 7 4 63 bindPayload) [], .bind]
def runHeld (running : State) : State := after .resetAssert (runBound running)
def runUnwinding (running : State) : State := after (.heldEnd false true) (runHeld running)

/-- RUNNING is entered alike in either order of the crawl engine and the paint unit: neither has anything to do. -/
theorem runRunning_eq (P : State → Prop)
    (h : P (({ runClearing with
      freeCount := 1
      control := { runClearing.control with mode := .running, coldCause := none }
      portA := runClearing.portA.start
      portB := runClearing.portB.start
      group := { runClearing.group with countdown := 30 } } : State).elect)) : P runRunning := by
  have e : ∀ t, t = _ → P t := fun t (ht : t = _) => ht ▸ h
  exact State.inEitherOrder_elim (P := P) _ _ _ (e _ (by decide +kernel)) (e _ (by decide +kernel))

/-- The facts on a state of the run that the hypotheses rest on. -/
def quietState (s : State) : Bool :=
  storesOk s && s.peers.all (fun e => !e.2.silenceDue && !e.2.lapseDue) &&
    s.fields.slots.all (fun e => decide (e.2.highlight.stage = .none ∨ e.2.highlight.remaining ≠ 0)) && !s.crawl.tickDue &&
    (decide (s.control.mode ≠ .running) || decide (s.group.countdown ≠ 0)) && decide (s.control.config.interval ≤ 255)

theorem settled_of_quietState {s : State} (h : quietState s = true) :
    s.Canonical ∧ s.Settled ∧ s.control.config.interval ≤ 255 := by
  simp only [quietState, Bool.and_eq_true, List.all_eq_true, Bool.not_eq_true', decide_eq_true_eq,
    Bool.or_eq_true] at h
  obtain ⟨⟨⟨⟨⟨h1, h2⟩, h3⟩, h4⟩, h5⟩, h6⟩ := h
  exact ⟨canonical_of_storesOk h1, settled_of_quiet ⟨h2, h3, h4, fun hr => h5.resolve_left (fun hn => hn hr)⟩, h6⟩

/-- The mode, the beacon countdown, the port's holder and whether the state is quiet, of each state of a run. -/
def runFacts (s : State) : Mode × Nat × Option Writer × Bool :=
  (s.control.mode, s.group.countdown, s.port.holder, quietState s)

/-- A frame start in each state of the painter, each reached by a run: HELD by power-on, LOADING, CLEARING, RUNNING,
RUNNING with a unit holding the port, HELD by nRST and UNWINDING, these two also with the unit. -/
theorem witness_FrameStartAges :
    (runFacts State.reset = (.held, 0, none, true) ∧ runFacts runLoading = (.loading, 0, none, true) ∧
      runFacts runClearing = (.clearing, 0, none, true) ∧ runFacts runRunning = (.running, 30, none, true) ∧
      runFacts (runBound runRunning) = (.running, 30, some .text, true) ∧
      runFacts (runHeld runRunning) = (.held, 30, some .text, true) ∧
      runFacts (runUnwinding runRunning) = (.unwinding, 0, some .text, true)) ∧
    ((runBound runRunning).peer 7).state = .live ∧ ((runUnwinding runRunning).slot 10).bound = true ∧
    ∀ s, quietState s = true → s.Canonical ∧ s.Settled ∧ s.control.config.interval ≤ 255 := by
  have h := runRunning_eq
    (fun r => (runFacts r = (.running, 30, none, true) ∧ runFacts (runBound r) = (.running, 30, some .text, true) ∧
        runFacts (runHeld r) = (.held, 30, some .text, true) ∧
        runFacts (runUnwinding r) = (.unwinding, 0, some .text, true)) ∧
      ((runBound r).peer 7).state = .live ∧ ((runUnwinding r).slot 10).bound = true) (by decide +kernel)
  exact ⟨⟨by decide +kernel, by decide +kernel, by decide +kernel, h.1⟩, h.2.1, h.2.2,
    fun _ => settled_of_quietState⟩

/-- A frame start at which a highlight runs and station 7 reaches the stale time, while RUNNING and in LOADING. -/
theorem witness_FrameStartAges_silence : ∀ mode ∈ [Mode.running, .loading],
    let v := withPeer (withTen { boundTen with highlight := ⟨.flash, 9, true⟩ }) { livePeer with silenceAge := 255 }
    let s : State := { v with control := { v.control with mode := mode } }
    s.Canonical ∧ s.Settled ∧ s.control.config.interval ≤ 255 ∧ (s.slot 10).highlight.stage = .flash ∧
      (s.peer 7).state = .live ∧ (s.peer 7).silenceAge + 1 = 16 * s.control.config.staleUnits := by
  have h : ∀ mode ∈ [Mode.running, .loading],
      let v := withPeer (withTen { boundTen with highlight := ⟨.flash, 9, true⟩ }) { livePeer with silenceAge := 255 }
      quietState { v with control := { v.control with mode := mode } } = true := by decide +kernel
  intro mode hm
  obtain ⟨h1, h2, h3⟩ := settled_of_quietState (h mode hm)
  exact ⟨h1, h2, h3, rfl, rfl, rfl⟩

/-- Station 7 has fallen SILENT; slot 10 shows its value, and its level is open. -/
def silenced : State :=
  { withPeer (withTen { boundTen with shown := some ⟨amount 1234567 2, 7⟩ })
      { livePeer with state := .silent, silenceDue := true } with overlay := (dotOpen none).overlay }

/-- The silence event of station 7. -/
theorem witness_SilenceDelivered : ∃ (s : State) (p : Nat), p < 63 ∧ s.Canonical ∧ s.control.mode = .running ∧
    (s.peer p).silenceDue = true ∧ (s.slot 10).bound = true ∧
    (s.slot 10).shown = some ⟨amount 1234567 2, p⟩ ∧ s.overlay.levels = [] ++ [levelDot] ∧
    (s.peer levelDot.requester).state = .silent ∧ s.overlay.request = none :=
  ⟨silenced, 7, by decide, canonical_of_storesOk (by decide +kernel),
    by decide +kernel⟩

/-- A frame that is shown, with every palette index in the palette; and one that is blanked. (The active start: the
states of the run of `witness_FrameStartAges`, in each state of the painter.) -/
theorem witness_ActiveStartDraws : ∃ s v : State, s.Settled ∧ s.scan.frameBlank = false ∧
    (∀ n < 16, (s.control.config.palette[n]?).isSome = true) ∧ v.Settled ∧ v.scan.frameBlank = true ∧
    v.control.mode = .loading ∧ v.group.countdown = 0 :=
  ⟨scene, runLoading, (settled_of_quietState (by decide +kernel)).2.1, rfl, by decide,
    (settled_of_quietState (by decide +kernel)).2.1, by decide +kernel⟩

/-! ## Queries -/

/-- Each query of the right length, at the ends of its range, and of wrong lengths, reaches step 4. -/
theorem witness_QueriesAnswered : ∀ e ∈ [[], [1], [2], [3, 3], [3, 4], [4, 255], [5], [0], [6], [255, 1], [1, 0],
      [2, 0], [3], [4, 1, 1], [5, (0 : Byte)]],
    (inbox scene 8 e).reaches (frame 7 8 63 e) (admitted scene 8 e) ∧ (frame 7 8 63 e).kind = kindQuery ∧
      (frame 7 8 63 e).payload = e := by
  have h : ∀ e ∈ [[], [1], [2], [3, 3], [3, 4], [4, 255], [5], [0], [6], [255, 1], [1, 0],
        [2, 0], [3], [4, 1, 1], [5, (0 : Byte)]],
      (scene.control.mode = .running ∧ scene.hand = .idle ∧
        (({ scene with frameQueue := [] } : State).intake (frame 7 8 63 e)).2 = true) ∧
      (frame 7 8 63 e).kind = kindQuery ∧ (frame 7 8 63 e).payload = e := by decide +kernel
  intro e he
  exact ⟨reaches_inbox scene 8 e (h e he).1, (h e he).2⟩

/-- A reset painter within its bounds; and the slot record of 3.6 at its fields' ends. -/
theorem witness_ReportsReadBack : ∃ s : State, s.Bounded ∧ s.OverlayLaw ∧ s.group.reference ≤ 63 := by
  obtain ⟨s, _, _, hb, _, _, _, ho, _, hr, _⟩ := witness_step_laws
  refine ⟨s, hb, ho, ?_⟩
  have hs := hr.station
  match h : s.group.timing with
  | .free => exact (hr.free h).le
  | .leading => have := hr.leading h; omega
  | .following => have := (hr.following h).1; omega

theorem witness_ReportsReadBack_slot : ∃ (s : State) (n : Nat) (r : Slot), n < 256 ∧ r = s.slot n ∧
    r.key.source = 63 ∧ r.key.instrument = 4095 ∧ r.key.field = 31 ∧ r.place.row = 47 ∧ r.place.col = 112 ∧
    r.place.width = 16 ∧ r.format.places = 6 ∧ r.format.expo = 8 ∧ r.priority = 7 ∧
    r.shown = some ⟨amount (-1) 9, 62⟩ :=
  ⟨{ scene with fields := { scene.fields with slots := [(255, { boundTen with
      key := ⟨63, 4095, 31⟩, place := ⟨47, 112, 16⟩, format := ⟨.decimal, 6, 8, true, true⟩, priority := 7
      shown := some ⟨amount (-1) 9, 62⟩ })] } }, 255, _, by decide, rfl, by decide +kernel⟩

/-! ## Resets, configuration and clocks -/

/-- A RESTART with no level open, and with one. -/
theorem witness_RestartBegins : ∀ v ∈ [scene, dotOpen none],
    (inbox v 8 [5]).reaches (frame 7 8 63 [5]) (admitted v 8 [5]) ∧ (frame 7 8 63 [5]).kind = kindQuery ∧
      (frame 7 8 63 [5]).payload = [5] ∧ (admitted v 8 [5]).Canonical ∧
      (admitted v 8 [5]).crawl.tickDue = false ∧ (admitted v 8 [5]).port.holder = none := by
  have h : ∀ v ∈ [scene, dotOpen none],
      (v.control.mode = .running ∧ v.hand = .idle ∧
        (({ v with frameQueue := [] } : State).intake (frame 7 8 63 [5])).2 = true) ∧
      (frame 7 8 63 [5]).kind = kindQuery ∧ (frame 7 8 63 [5]).payload = [5] ∧
      storesOk (admitted v 8 [5]) = true ∧
      (admitted v 8 [5]).crawl.tickDue = false ∧ (admitted v 8 [5]).port.holder = none := by decide +kernel
  intro v hv
  obtain ⟨h1, h2, h3, h4, h5⟩ := h v hv
  exact ⟨reaches_inbox v 8 [5] h1, h2, h3, canonical_of_storesOk h4, h5⟩

/-- nRST while RUNNING, and while a cold reset of cause POWER has not finished; HELD with an earlier cold reset of
cause POWER, with one of cause COLD_PIN, and with none. -/
theorem witness_ResetsDecided : scene.control.mode ≠ .held ∧ scene.control.coldCause ≠ some .power ∧
    (let v := { State.reset with control := { State.reset.control with mode := .loading } };
      v.control.mode ≠ .held ∧ v.control.coldCause = some .power) ∧
    (State.reset.control.mode = .held ∧ State.reset.control.coldCause = some .power) ∧
    (let v := after .resetAssert
        { scene with control := { scene.control with mode := .clearing, coldCause := some .coldPin } };
      v.control.mode = .held ∧ v.control.coldCause = some .coldPin) ∧
    (after .resetAssert scene).control.mode = .held ∧ (after .resetAssert scene).control.coldCause = none ∧
    storesOk (after .resetAssert scene) = true ∧ (after .resetAssert scene).crawl.tickDue = false := by decide +kernel

/-- An image that is accepted, one whose marker is wrong, and CLEARING with its values set, without and with a crawl
row. -/
theorem witness_ConfigurationLoaded :
    (clampedImage.length = 64 ∧ byteAt clampedImage 0 = 0xC5 ∧
      ((clampedImage.take 62).map BitVec.toNat).sum % 65536 =
        256 * (byteAt clampedImage 62).toNat + (byteAt clampedImage 63).toNat) ∧
    ((List.replicate 64 (0 : Byte)).length = 64 ∧ byteAt (List.replicate 64 0) 0 ≠ 0xC5) ∧
    ({ scene with control := { scene.control with mode := .loading } } : State).control.mode = .loading ∧
    ∀ v ∈ [scene, crawling],
      let s := { v with control := { v.control with mode := .clearing } };
      s.control.mode = .clearing ∧ s.peers = [] ∧ s.fields.slots = [] ∧ s.crawl.request = false ∧
        s.paint = none ∧ s.port.holder = none ∧ s.inhibited = false ∧ s.control.config.station < 63 := by
  decide +kernel

/-- The reference stops while RUNNING with a candidate of station 7 heard; and in BACKUP already. -/
theorem witness_ReferenceStopInhibits :
    (let s := withPeer scene { livePeer with painter := true, beaconGroup := 2, beaconAge := 89 };
      s.control.clock = .reference ∧ s.control.mode = .running ∧ (s.peer 7).painter = true ∧
        (s.peer 7).beaconGroup = s.control.config.group ∧
        (s.peer 7).beaconAge < 3 * s.control.config.interval) ∧
    State.reset.control.clock = .backup := by decide +kernel

end Sys2Proof.Tests
end

section
/-!
PROOFS. LAYOUT operations (R41 to R46): what one operation answers, the tests of a BIND, and the record and owner map
that BIND, UNBIND and LEVEL leave.
-/
namespace Sys2Proof.Machine

/-! ## The operation in hand (R41) -/

/-- The row of the table that carries out a LAYOUT operation. -/
def LayoutOp.row : LayoutOp → Instr
  | .bind _ => .bind
  | .unbind _ => .unbind
  | .level _ _ => .level

/-- A LAYOUT row whose operation is the next one in hand carries it out. -/
theorem exec_row_inHand {s : State} {job : LayoutJob} {op : LayoutOp} {more : List LayoutOp}
    (hm : s.control.mode = .running) (hh : s.hand = .layout job) (hr : job.remaining = op :: more) :
    exec op.row s = .next (s.layoutTake job) := by
  have row : s.layoutRow op.code = s.layoutTake job := by
    simp [State.layoutRow, State.isRunning, hh, hr, hm]
  cases op <;> exact congrArg Host.Outcome.next row

/-- An operation that presents no fill is complete with its outcome. -/
theorem exec_row_complete {s u : State} {job : LayoutJob} {op : LayoutOp} {more : List LayoutOp}
    {slot : Nat} {code : ResultCode} {generation : BitVec 8}
    (hm : s.control.mode = .running) (hh : s.hand = .layout job) (hr : job.remaining = op :: more)
    (ho : s.layoutOp op = (u, { slot := slot, code := code, generation := generation }, false)) :
    exec op.row s = .next (u.layoutDone job more slot code generation) := by
  rw [exec_row_inHand hm hh hr]
  simp [State.layoutTake, State.layoutDone, hr, ho]

/-- An operation that presents its fill leaves the dispatcher waiting for it (R44). -/
theorem exec_row_waits {s u : State} {job : LayoutJob} {op : LayoutOp} {more : List LayoutOp} {r : OpResult}
    (hm : s.control.mode = .running) (hh : s.hand = .layout job) (hr : job.remaining = op :: more)
    (ho : s.layoutOp op = (u, r, true)) :
    exec op.row s = .next { u with
      hand := .layoutFill { job with remaining := more, results := job.results ++ [r] } } := by
  rw [exec_row_inHand hm hh hr]
  simp [State.layoutTake, hr, ho]

/-! ## What one operation answers (R42 to R46) -/

section LayoutOperation

variable {s : State} {n prio : Nat}

/-- UNBIND of a BOUND slot (R45). -/
theorem State.layoutOp_unbind_bound (h : (s.slot n).bound = true) : s.layoutOp (.unbind n) =
    ((s.markOwner (s.slot n).place.cells .none).setSlot n (freedSlot (s.slot n)),
      { slot := n, code := .done, generation := (s.slot n).generation }, false) := by
  simp [State.layoutOp, h]

/-- UNBIND of a FREE slot (R45). -/
theorem State.layoutOp_unbind_free (h : (s.slot n).bound = false) : s.layoutOp (.unbind n) =
    (s, { slot := n, code := .slotFree, generation := (s.slot n).generation }, false) := by
  simp [State.layoutOp, h]

/-- LEVEL of a BOUND slot with a legal priority (R46). -/
theorem State.layoutOp_level_bound (hp : prio ≤ 7) (h : (s.slot n).bound = true) : s.layoutOp (.level n prio) =
    ((s.setSlot n { s.slot n with priority := prio }).paintTake,
      { slot := n, code := .done, generation := (s.slot n).generation }, false) := by
  simp [State.layoutOp, h, Nat.not_lt.2 hp]

/-- LEVEL with a priority above 7 (R46). -/
theorem State.layoutOp_level_range (hp : 7 < prio) : s.layoutOp (.level n prio) =
    (s, { slot := n, code := .range, generation := (s.slot n).generation }, false) := by
  simp [State.layoutOp, hp]

/-- LEVEL of a FREE slot with a legal priority (R46). -/
theorem State.layoutOp_level_free (hp : prio ≤ 7) (h : (s.slot n).bound = false) : s.layoutOp (.level n prio) =
    (s, { slot := n, code := .slotFree, generation := (s.slot n).generation }, false) := by
  simp [State.layoutOp, h, Nat.not_lt.2 hp]

variable {op : BindOp} {kind : FormatKind} {rule : ColourRule}

/-- A BIND that fails a test changes nothing (R42). -/
theorem State.layoutOp_bind_refused (h : s.bindTest op ≠ .done) : s.layoutOp (.bind op) =
    (s, { slot := op.slot, code := s.bindTest op, generation := (s.slot op.slot).generation }, false) := by
  unfold State.layoutOp
  dsimp only
  split
  next hd _ => exact absurd hd h
  next => rfl

/-- A request of the text writer changes nothing but the port's holder (R101). -/
theorem State.present_textWriter :
    s.present .text = { s with port := { s.port with holder := some (s.port.holder.getD .text) } } := by
  unfold State.present
  split
  next h => simp [State.grant, h]
  next w h => rw [h, Option.getD_some, ← h]

/-- The slots after a BIND is carried out: that of the operation is written (R43). -/
theorem State.slot_carryBind (m : Nat) : (s.carryBind op kind rule).slot m =
    if m = op.slot then boundSlot (s.slot op.slot) op kind rule else s.slot m := by
  rw [State.carryBind, State.present_textWriter]
  exact State.slot_setSlot s op.slot m _

/-- The owner map after a BIND is carried out: the cells of its placement are the slot's (R43). -/
theorem State.ownerOf_carryBind (i : Nat) : (s.carryBind op kind rule).ownerOf i =
    if i ∈ op.place.cells then .slot op.slot else s.ownerOf i := by
  rw [State.carryBind, State.present_textWriter]
  exact State.ownerOf_markOwner s op.place.cells _ i

/-- A BIND that passes its tests is carried out, DONE with the new generation (R43). -/
theorem State.layoutOp_bind_done (h : s.bindTest op = .done) (hr : bindRange op = some (kind, rule)) :
    s.layoutOp (.bind op) = (s.carryBind op kind rule,
      { slot := op.slot, code := .done, generation := (s.slot op.slot).generation + 1 }, true) := by
  have generation : ((s.carryBind op kind rule).slot op.slot).generation = (s.slot op.slot).generation + 1 := by
    rw [State.slot_carryBind, if_pos rfl]
    rfl
  simp only [State.layoutOp, h, hr, generation]

/-! ## The tests of a BIND (R42) -/

/-- The first row of R42's table, for the kind and the colour rule that the operation's codes name. -/
def BindOp.InRange (op : BindOp) (kind : FormatKind) (rule : ColourRule) : Prop :=
  (op.kindCode, kind) ∈ [(0, FormatKind.decimal), (1, .fraction), (2, .size), (3, .change), (4, .text)] ∧
  (op.ruleCode, rule) ∈ [(0, ColourRule.plain), (1, .tick), (2, .sign)] ∧
  op.source ≤ 63 ∧ op.instrument ≤ 4095 ∧ op.field ≤ 31 ∧ op.row ≤ 47 ∧ op.col ≤ 127 ∧
  1 ≤ op.width ∧ op.width ≤ 16 ∧ op.col + op.width ≤ 128 ∧ op.priority ≤ 7 ∧ op.spare = 0 ∧
  (∀ i, 3 ≤ i → op.attrs.getLsbD i = false) ∧
  (kind = .decimal ∨ kind = .change → op.places ≤ 6 ∧ op.expo = 0 ∧ op.half = false) ∧
  (kind = .fraction → 1 ≤ op.expo ∧ op.expo ≤ 8 ∧ (op.half = true → op.expo ≤ 7) ∧ op.places = 0) ∧
  (kind = .size → op.places = 0 ∧ op.expo = 0 ∧ op.half = false) ∧
  (kind = .text → op.places = 0 ∧ op.expo = 0 ∧ op.half = false ∧ op.group = false)

theorem FormatKind.ofCode_eq_some_iff (code : Nat) (kind : FormatKind) : FormatKind.ofCode code = some kind ↔
    (code, kind) ∈ [(0, FormatKind.decimal), (1, .fraction), (2, .size), (3, .change), (4, .text)] := by
  unfold FormatKind.ofCode
  split <;> cases kind <;> simp_all

theorem ColourRule.ofCode_eq_some_iff (code : Nat) (rule : ColourRule) : ColourRule.ofCode code = some rule ↔
    (code, rule) ∈ [(0, ColourRule.plain), (1, .tick), (2, .sign)] := by
  unfold ColourRule.ofCode
  split <;> cases rule <;> simp_all

/-- The attributes byte has no bit above inverse's place exactly when it is below 8. -/
theorem byte_lt_eight_iff (b : Byte) : b.toNat < 8 ↔ ∀ i, 3 ≤ i → b.getLsbD i = false := by
  constructor
  · intro h i hi
    exact Nat.testBit_lt_two_pow (lt_of_lt_of_le h (Nat.pow_le_pow_right (n := 2) (by decide) hi))
  · intro h
    exact Nat.lt_pow_two_of_testBit (n := 3) _ h

/-- The format fields suit the kind, kind by kind (R42). -/
theorem formatSuits_iff (kind : FormatKind) (op : BindOp) : formatSuits kind op = true ↔
    (kind = .decimal ∨ kind = .change → op.places ≤ 6 ∧ op.expo = 0 ∧ op.half = false) ∧
    (kind = .fraction → 1 ≤ op.expo ∧ op.expo ≤ 8 ∧ (op.half = true → op.expo ≤ 7) ∧ op.places = 0) ∧
    (kind = .size → op.places = 0 ∧ op.expo = 0 ∧ op.half = false) ∧
    (kind = .text → op.places = 0 ∧ op.expo = 0 ∧ op.half = false ∧ op.group = false) := by
  have half : (op.half = false ∨ op.expo ≤ 7) ↔ (op.half = true → op.expo ≤ 7) := by
    cases op.half <;> simp
  cases kind <;> simp [formatSuits, and_assoc, half]

/-- A BIND passes its first test with a kind and a colour rule exactly when it is in range for them. -/
theorem bindRange_eq_some_iff : bindRange op = some (kind, rule) ↔ op.InRange kind rule := by
  unfold BindOp.InRange
  rw [← FormatKind.ofCode_eq_some_iff, ← ColourRule.ofCode_eq_some_iff, ← byte_lt_eight_iff, ← formatSuits_iff]
  unfold bindRange
  split
  next k r hk hr =>
    simp only [hk, hr, Option.some.injEq]
    constructor
    · intro h
      split at h
      next hg => cases h; exact ⟨rfl, rfl, hg⟩
      next => cases h
    · rintro ⟨rfl, rfl, hg⟩
      exact if_pos hg
  next hn =>
    constructor
    · intro h; cases h
    · rintro ⟨hk, hr, -⟩
      exact absurd hr (hn kind rule hk)

/-- No cell of the BIND belongs to another slot. -/
def State.cellsFree (s : State) (op : BindOp) : Prop :=
  ∀ i ∈ op.place.cells, ∀ m, s.ownerOf i = .slot m → m = op.slot

theorem otherSlotOwns_iff (n : Nat) (o : Owner) : otherSlotOwns n o = true ↔ ∃ m, o = .slot m ∧ m ≠ n := by
  cases o <;> simp [otherSlotOwns]

/-- The fourth test of R42's table fails exactly when some cell belongs to another slot. -/
theorem State.overlap_iff :
    op.place.cells.any (fun i => otherSlotOwns op.slot (s.ownerOf i)) = true ↔ ¬ s.cellsFree op := by
  simp [State.cellsFree, otherSlotOwns_iff]

/-- The tests of a BIND of no kind and colour rule (R42 test 1). -/
theorem State.bindTest_range (h : ∀ kind rule, ¬ op.InRange kind rule) : s.bindTest op = .range := by
  have none : bindRange op = none := Option.eq_none_iff_forall_not_mem.2
    fun ⟨kind, rule⟩ hr => h kind rule (bindRange_eq_some_iff.1 hr)
  simp [State.bindTest, none]

/-- The tests of a BIND in range, in the order of R42's table. -/
theorem State.bindTest_inRange [Decidable (s.cellsFree op)] (h : op.InRange kind rule) : s.bindTest op =
    if kind = .text ∧ rule ≠ .plain then .rule
    else if s.control.config.crawlRow = some op.row then .crawlRow
    else if ¬ s.cellsFree op then .overlap
    else if (s.slot op.slot).bound = true then .slotBusy
    else .done := by
  simp only [State.bindTest, bindRange_eq_some_iff.2 h, State.overlap_iff]

/-! ## What the rows answer -/

variable {job : LayoutJob} {more : List LayoutOp}

/-- A BIND that fails a test changes nothing but the results (R42). -/
theorem exec_bind_refused {code : ResultCode} (hm : s.control.mode = .running) (hh : s.hand = .layout job)
    (hr : job.remaining = .bind op :: more) (ht : s.bindTest op = code) (hc : code ≠ .done) :
    exec .bind s = .next (s.layoutDone job more op.slot code (s.slot op.slot).generation) := by
  subst ht
  exact exec_row_complete hm hh hr (State.layoutOp_bind_refused hc)

/-- What a BIND that is carried out touches, besides the dispatcher's hand (R43, R44). -/
theorem State.carryBind_touches (hand : Hand) : { s.carryBind op kind rule with hand := hand } = { s with
    fields := { s.fields with slots := (s.carryBind op kind rule).fields.slots }
    store := { s.store with owner := (s.carryBind op kind rule).store.owner }
    text := some (.fill op.place { fg := op.fg, bg := op.bg, attrs := attrsOfByte op.attrs })
    port := { s.port with holder := some (s.port.holder.getD .text) }
    hand := hand } := by
  rw [State.carryBind, State.present_textWriter]
  rfl

end LayoutOperation

/-! ## The obligations -/

/-- Settles O30: R42's tests in their order (`State.bindTest_inRange`), and R43's changes when all pass. -/
theorem bindCarriedOut : Obligations.BindCarriedOut := by
  unfold Obligations.BindCarriedOut
  intro s job op more good hm hh hr hgood
  classical
  have inRange : ∀ {kind rule}, good kind rule → op.InRange kind rule := fun {kind rule} => (hgood kind rule).1
  have refused := fun code => exec_bind_refused (code := code) hm hh hr
  refine ⟨fun kind rule hg hRule hRow hFree hBound => ?_, fun hbad => ?_,
    fun kind rule hg => ⟨fun hk hRule => ?_, fun hRule => ⟨fun hRow => ?_, fun hRow =>
      ⟨fun i hi m ho hne => ?_, fun hFree hBound => ?_⟩⟩⟩⟩
  case refine_1 =>
    have free : s.cellsFree op := hFree
    have passes : s.bindTest op = .done := by
      rw [State.bindTest_inRange (inRange hg), if_neg hRule, if_neg hRow, if_neg (not_not.2 free),
        if_neg (by simp [hBound])]
    have answers := State.layoutOp_bind_done passes (bindRange_eq_some_iff.2 (inRange hg))
    refine ⟨_, exec_row_waits hm hh hr answers, State.carryBind_touches _,
      State.slot_carryBind op.slot |>.trans (if_pos rfl),
      fun n hn => State.slot_carryBind n |>.trans (if_neg hn), State.ownerOf_carryBind⟩
  case refine_2 =>
    exact refused _ (State.bindTest_range fun kind rule h => hbad kind rule ((hgood kind rule).2 h)) (by decide)
  case refine_3 =>
    refine refused _ ?_ (by decide)
    rw [State.bindTest_inRange (inRange hg), if_pos ⟨hk, hRule⟩]
  case refine_4 =>
    refine refused _ ?_ (by decide)
    rw [State.bindTest_inRange (inRange hg), if_neg hRule, if_pos hRow]
  case refine_5 =>
    have taken : ¬ s.cellsFree op := fun h => hne (h i hi m ho)
    refine refused _ ?_ (by decide)
    rw [State.bindTest_inRange (inRange hg), if_neg hRule, if_neg hRow, if_pos taken]
  case refine_6 =>
    have free : s.cellsFree op := hFree
    refine refused _ ?_ (by decide)
    rw [State.bindTest_inRange (inRange hg), if_neg hRule, if_neg hRow, if_neg (not_not.2 free), if_pos hBound]

/-- Settles O31: each case is one branch of `State.layoutOp`, and the record and the owner map of an UNBIND are read
back from its two writes. -/
theorem unbindAndLevel : Obligations.UnbindAndLevel := by
  unfold Obligations.UnbindAndLevel
  intro s job n prio more hm hh
  refine ⟨fun hr hb => ?_, fun hr hb => ?_, fun hr hp hb => ?_, fun hr hp => ?_, fun hr hp hb => ?_⟩
  case refine_1 =>
    refine ⟨_, exec_row_complete hm hh hr (State.layoutOp_unbind_bound hb), rfl, State.slot_setSlot_same _ _ _,
      fun m hm => (State.slot_setSlot _ n m _).trans (if_neg hm), State.ownerOf_markOwner s _ _⟩
  case refine_2 => exact exec_row_complete hm hh hr (State.layoutOp_unbind_free hb)
  case refine_3 => exact exec_row_complete hm hh hr (State.layoutOp_level_bound hp hb)
  case refine_4 => exact exec_row_complete hm hh hr (State.layoutOp_level_range hp)
  case refine_5 => exact exec_row_complete hm hh hr (State.layoutOp_level_free hp hb)

end Sys2Proof.Machine
end

section
/-!
PROOFS. Items (R48 to R51): what judging one match changes, and what judging all matches of an item changes, whatever
the order in which they are judged.
-/
namespace Sys2Proof.Machine

/-! ## One match (R49, R50) -/

/-- The slot takes the value: the value's type and scale suit its kind (R49). -/
def Slot.suits (v : Value) (r : Slot) : Bool := suitsKind r.format.kind v

/-- The slot takes the value in the place of a pending value (R51). -/
def Slot.conflates (v : Value) (r : Slot) : Bool := r.suits v && r.pending.isSome

/-- The slot takes the value afresh, with a new stamp (R50). -/
def Slot.takesFresh (v : Value) (r : Slot) : Bool := r.suits v && !r.pending.isSome

/-- The slot with the value pending: the stamp of the value replaced, or else the new stamp (R50, R51). -/
def Slot.took (sender : Nat) (v : Value) (new : BitVec 32) (r : Slot) : Slot :=
  { r with pending := some { value := v, source := sender, stamp := (r.pending.map Pending.stamp).getD new } }

section Matches

variable (s : State) (sender : Nat) (v : Value)

/-- A match that suits and holds no pending value (R50). -/
theorem State.applyMatch_fresh {n : Nat} (hs : (s.slot n).suits v = true) (hp : (s.slot n).pending = none) :
    s.applyMatch n sender v =
      (({ s with fields := { s.fields with stamp := s.fields.stamp + 1 } }).setSlot n
        ((s.slot n).took sender v s.fields.stamp)).bump 37 1 := by
  rw [Slot.suits] at hs
  simp only [State.applyMatch, Slot.took, if_pos hs, hp]
  rfl

/-- A match that suits and holds a pending value (R51). -/
theorem State.applyMatch_conflated {n : Nat} {old : Pending} (hs : (s.slot n).suits v = true)
    (hp : (s.slot n).pending = some old) : s.applyMatch n sender v =
      ((s.setSlot n ((s.slot n).took sender v s.fields.stamp)).bump 37 1).bump 39 1 := by
  rw [Slot.suits] at hs
  simp only [State.applyMatch, Slot.took, if_pos hs, hp]
  rfl

/-- A match that is rejected (R49). -/
theorem State.applyMatch_rejected {n : Nat} (hs : (s.slot n).suits v = false) :
    s.applyMatch n sender v = s.bump 43 1 := by
  rw [Slot.suits] at hs
  simp [State.applyMatch, hs]

/-- Judging a match changes its slot alone, and only when the value suits it. -/
theorem State.slot_applyMatch (n m : Nat) : (s.applyMatch n sender v).slot m =
    if m = n ∧ (s.slot m).suits v = true then (s.slot m).took sender v s.fields.stamp else s.slot m := by
  cases hs : (s.slot n).suits v with
  | false =>
    rw [State.applyMatch_rejected s sender v hs, if_neg]
    · rfl
    · rintro ⟨rfl, h⟩
      rw [hs] at h
      cases h
  | true =>
    have written : (s.applyMatch n sender v).slot m =
        if m = n then (s.slot n).took sender v s.fields.stamp else s.slot m := by
      cases hp : (s.slot n).pending with
      | none => rw [State.applyMatch_fresh s sender v hs hp]; exact State.slot_setSlot _ n m _
      | some old => rw [State.applyMatch_conflated s sender v hs hp]; exact State.slot_setSlot s n m _
    rw [written]
    by_cases hm : m = n
    · subst hm; simp [hs]
    · simp [hm]

/-- A match that takes the value afresh uses up a stamp (R50). -/
theorem State.stamp_applyMatch (n : Nat) : (s.applyMatch n sender v).fields.stamp =
    s.fields.stamp + if (s.slot n).takesFresh v = true then 1 else 0 := by
  cases hs : (s.slot n).suits v with
  | false => simp [State.applyMatch_rejected s sender v hs, Slot.takesFresh, hs]
  | true =>
    cases hp : (s.slot n).pending with
    | none => simp [State.applyMatch_fresh s sender v hs hp, Slot.takesFresh, hs, hp]
    | some old => simp [State.applyMatch_conflated s sender v hs hp, Slot.takesFresh, hs, hp]

/-- A match is counted, and counted again when conflated, or else counted rejected (R49, R51). -/
theorem State.risesTo_applyMatch {s₀ : State} {l : List (Nat × Nat)} (h : s₀.risesTo s l) (n : Nat) :
    s₀.risesTo (s.applyMatch n sender v)
      (l ++ [(37, ((s.slot n).suits v).toNat), (39, ((s.slot n).conflates v).toNat),
        (43, (!(s.slot n).suits v).toNat)]) := by
  cases hs : (s.slot n).suits v with
  | false =>
    rw [State.applyMatch_rejected s sender v hs]
    exact State.risesTo_congr (State.risesTo_bump h 43 1) rfl fun k => by simp [Slot.conflates, hs]
  | true =>
    cases hp : (s.slot n).pending with
    | none =>
      rw [State.applyMatch_fresh s sender v hs hp]
      exact State.risesTo_congr (State.risesTo_bump h 37 1) rfl fun k => by simp [Slot.conflates, hs, hp]
    | some old =>
      rw [State.applyMatch_conflated s sender v hs hp]
      exact State.risesTo_congr (State.risesTo_bump (State.risesTo_bump h 37 1) 39 1) rfl
        fun k => by simp [Slot.conflates, hs, hp]

/-! ## The matches of one item, in the order judged (R48) -/

/-- The matches judged one after the other. -/
def State.applyMatches (s : State) (sender : Nat) (v : Value) (ns : List Nat) : State :=
  ns.foldl (fun acc n => acc.applyMatch n sender v) s

variable {s sender v}

@[simp] theorem State.applyMatches_nil : s.applyMatches sender v [] = s := rfl

@[simp] theorem State.applyMatches_cons (n : Nat) (ns : List Nat) :
    s.applyMatches sender v (n :: ns) = (s.applyMatch n sender v).applyMatches sender v ns := rfl

/-- Judging one match leaves every other slot as it was. -/
theorem State.slot_applyMatch_other {n m : Nat} (h : m ≠ n) : (s.applyMatch n sender v).slot m = s.slot m := by
  rw [State.slot_applyMatch, if_neg (fun x => h x.1)]

/-- Judging one match leaves the slots of the others as they were. -/
theorem State.slot_applyMatch_rest {n : Nat} {ns : List Nat} (h : n ∉ ns) :
    ∀ m ∈ ns, (s.applyMatch n sender v).slot m = s.slot m :=
  fun _ hm => State.slot_applyMatch_other (fun e => h (e ▸ hm))

/-- A slot that is no match, or that is rejected, stays as it was (R49). -/
theorem State.slot_applyMatches_left {ns : List Nat} {m : Nat} (h : ¬ (m ∈ ns ∧ (s.slot m).suits v = true)) :
    (s.applyMatches sender v ns).slot m = s.slot m := by
  induction ns generalizing s with
  | nil => rfl
  | cons n ns ih =>
    have first : (s.applyMatch n sender v).slot m = s.slot m := by
      rw [State.slot_applyMatch, if_neg]
      rintro ⟨rfl, hs⟩
      exact h ⟨List.mem_cons_self, hs⟩
    rw [State.applyMatches_cons, ih, first]
    rw [first]
    exact fun ⟨hm, hs⟩ => h ⟨List.mem_cons_of_mem n hm, hs⟩

/-- The matches that take the value afresh, in the order judged. -/
def State.freshAmong (s : State) (v : Value) (ns : List Nat) : List Nat :=
  ns.filter fun n => (s.slot n).takesFresh v

@[simp] theorem State.freshAmong_nil : s.freshAmong v [] = [] := rfl

theorem State.freshAmong_cons (n : Nat) (ns : List Nat) : s.freshAmong v (n :: ns) =
    if (s.slot n).takesFresh v = true then n :: s.freshAmong v ns else s.freshAmong v ns := List.filter_cons

/-- Judging a match leaves those that follow it fresh or not. -/
theorem State.freshAmong_applyMatch {n : Nat} {ns : List Nat} (h : n ∉ ns) :
    (s.applyMatch n sender v).freshAmong v ns = s.freshAmong v ns :=
  List.filter_congr fun m hm => by rw [State.slot_applyMatch_rest h m hm]

/-- The stamp counter advances by one for each match that takes the value afresh (R50). -/
theorem State.stamp_applyMatches {ns : List Nat} (nodup : ns.Nodup) :
    (s.applyMatches sender v ns).fields.stamp =
      s.fields.stamp + BitVec.ofNat 32 (s.freshAmong v ns).length := by
  induction ns generalizing s with
  | nil => simp
  | cons n ns ih =>
    obtain ⟨hn, nodup⟩ := List.nodup_cons.1 nodup
    rw [State.applyMatches_cons, ih nodup, State.freshAmong_applyMatch hn, State.stamp_applyMatch,
      State.freshAmong_cons]
    split
    · rw [List.length_cons, BitVec.ofNat_add]; ac_rfl
    · simp

/-- A match that suits holds the value, and the fresh ones take their stamps in the order judged (R50, R51). -/
theorem State.slot_applyMatches_taken {ns : List Nat} (nodup : ns.Nodup) {m : Nat} (hm : m ∈ ns)
    (hs : (s.slot m).suits v = true) : (s.applyMatches sender v ns).slot m =
      (s.slot m).took sender v (s.fields.stamp + BitVec.ofNat 32 ((s.freshAmong v ns).idxOf m)) := by
  induction ns generalizing s with
  | nil => cases hm
  | cons n ns ih =>
    obtain ⟨hn, nodup⟩ := List.nodup_cons.1 nodup
    rw [State.applyMatches_cons, State.freshAmong_cons]
    by_cases e : m = n
    · subst e
      rw [State.slot_applyMatches_left (fun h => hn h.1), State.slot_applyMatch, if_pos ⟨rfl, hs⟩]
      cases hp : (s.slot m).pending with
      | none => simp [Slot.takesFresh, hs, hp]
      | some old => simp [Slot.took, hp]
    · have mem : m ∈ ns := (List.mem_cons.1 hm).resolve_left e
      have unjudged : (s.applyMatch n sender v).slot m = s.slot m := State.slot_applyMatch_other e
      rw [ih nodup mem (by rw [unjudged]; exact hs), unjudged, State.freshAmong_applyMatch hn,
        State.stamp_applyMatch]
      split
      · rw [List.idxOf_cons_ne _ (Ne.symm e), Nat.succ_eq_one_add, BitVec.ofNat_add, BitVec.add_assoc]
        rfl
      · simp

theorem countP_cons_toNat (p : Nat → Bool) (n : Nat) (ns : List Nat) :
    (n :: ns).countP p = ns.countP p + (p n).toNat := by
  cases h : p n <;> simp [h]

/-- The counters count the matches that suit, the conflations and the rejections (R49, R51). -/
theorem State.risesTo_applyMatches {s₀ : State} {l : List (Nat × Nat)} (h : s₀.risesTo s l) {ns : List Nat}
    (nodup : ns.Nodup) : s₀.risesTo (s.applyMatches sender v ns)
      (l ++ [(37, ns.countP fun n => (s.slot n).suits v), (39, ns.countP fun n => (s.slot n).conflates v),
        (43, ns.countP fun n => !(s.slot n).suits v)]) := by
  induction ns generalizing s l with
  | nil => exact State.risesTo_congr h rfl (by simp)
  | cons n ns ih =>
    obtain ⟨hn, nodup⟩ := List.nodup_cons.1 nodup
    have rest := State.slot_applyMatch_rest (s := s) (sender := sender) (v := v) hn
    have count : ∀ p : Slot → Bool, (ns.countP fun m => p ((s.applyMatch n sender v).slot m)) =
        ns.countP fun m => p (s.slot m) :=
      fun p => List.countP_congr fun m hm => by rw [rest m hm]
    refine State.risesTo_congr (ih (State.risesTo_applyMatch s sender v h n) nodup) rfl fun k => ?_
    rw [count (Slot.suits v), count (Slot.conflates v), count fun r => !r.suits v]
    simp only [amountFor_append, amountFor_cons, amountFor_nil, countP_cons_toNat]
    split_ifs <;> omega

/-! ## One item (R48) -/

/-- The matches that hold the value afterwards (R49). -/
def State.takenAmong (s : State) (v : Value) (ns : List Nat) : List Nat := ns.filter fun n => (s.slot n).suits v

/-- Those of them that held a pending value before (R51). -/
def State.keptAmong (s : State) (v : Value) (ns : List Nat) : List Nat :=
  (s.takenAmong v ns).filter fun n => (s.slot n).pending.isSome

theorem State.mem_takenAmong {ns : List Nat} {n : Nat} :
    n ∈ s.takenAmong v ns ↔ n ∈ ns ∧ (s.slot n).suits v = true := List.mem_filter

theorem State.mem_freshAmong {ns : List Nat} {n : Nat} :
    n ∈ s.freshAmong v ns ↔ n ∈ s.takenAmong v ns ∧ (s.slot n).pending = none := by
  rw [State.mem_takenAmong, State.freshAmong, List.mem_filter]
  simp [Slot.takesFresh, and_assoc]

theorem State.countP_suits (ns : List Nat) :
    (ns.countP fun n => (s.slot n).suits v) = (s.takenAmong v ns).length := List.countP_eq_length_filter

theorem State.countP_conflates (ns : List Nat) :
    (ns.countP fun n => (s.slot n).conflates v) = (s.keptAmong v ns).length := by
  rw [State.keptAmong, State.takenAmong, List.filter_filter, ← List.countP_eq_length_filter]
  exact List.countP_congr fun n _ => by rw [Slot.conflates, Bool.and_comm]

theorem State.countP_rejected (ns : List Nat) :
    (ns.countP fun n => !(s.slot n).suits v) = ns.length - (s.takenAmong v ns).length := by
  have split := ns.length_eq_length_filter_add fun n => (s.slot n).suits v
  rw [State.takenAmong, List.countP_eq_length_filter]
  omega

/-- A match that suits is either conflated or takes the value afresh, in whichever order they are judged. -/
theorem State.length_freshAmong {order ns : List Nat} (perm : order.Perm ns) :
    (s.freshAmong v order).length = (s.takenAmong v ns).length - (s.keptAmong v ns).length := by
  have fresh : s.freshAmong v ns = (s.takenAmong v ns).filter fun n => !(s.slot n).pending.isSome := by
    rw [State.takenAmong, List.filter_filter]
    exact List.filter_congr fun n _ => by rw [Slot.takesFresh, Bool.and_comm]
  have split := (s.takenAmong v ns).length_eq_length_filter_add fun n => (s.slot n).pending.isSome
  have same : (s.freshAmong v order).length = (s.freshAmong v ns).length := (perm.filter _).length_eq
  rw [same, fresh, State.keptAmong]
  omega

/-- The stamp with which a match that takes the value holds it: that of the value replaced, or else a new one by the
match's place among the fresh ones (R50, R51). -/
def State.stampIn (s : State) (v : Value) (order : List Nat) (n : Nat) : BitVec 32 :=
  ((s.slot n).pending.map Pending.stamp).getD
    (s.fields.stamp + BitVec.ofNat 32 ((s.freshAmong v order).idxOf n))

theorem State.stampIn_kept {order : List Nat} {n : Nat} {old : Pending} (h : (s.slot n).pending = some old) :
    s.stampIn v order n = old.stamp := by
  simp [State.stampIn, h]

theorem State.stampIn_fresh {order : List Nat} {n : Nat} (h : (s.slot n).pending = none) :
    s.stampIn v order n = s.fields.stamp + BitVec.ofNat 32 ((s.freshAmong v order).idxOf n) := by
  simp [State.stampIn, h]

/-- No two of fewer than 2³² fresh matches have one stamp. -/
theorem State.eq_of_stampIn_eq {order : List Nat} {n m : Nat} (short : order.length < 2 ^ 32)
    (hn : n ∈ s.freshAmong v order) (hm : m ∈ s.freshAmong v order)
    (h : s.stampIn v order n = s.stampIn v order m) : n = m := by
  rw [State.stampIn_fresh (State.mem_freshAmong.1 hn).2, State.stampIn_fresh (State.mem_freshAmong.1 hm).2] at h
  have fewer : (s.freshAmong v order).length ≤ order.length := List.length_filter_le _ _
  have ln := List.idxOf_lt_length_of_mem hn
  have lm := List.idxOf_lt_length_of_mem hm
  have places := congrArg BitVec.toNat ((BitVec.add_right_inj s.fields.stamp).1 h)
  rw [BitVec.toNat_ofNat, BitVec.toNat_ofNat, Nat.mod_eq_of_lt (by omega), Nat.mod_eq_of_lt (by omega)] at places
  exact (List.idxOf_inj hn).1 places

variable {instrument : Nat} {it : Item}

/-- An item without a match is counted (R48). -/
theorem State.applyItem_unmatched (h : s.matchesOf sender instrument it.field = []) :
    s.applyItem sender instrument it = s.bump 38 1 := by
  simp [State.applyItem, h]

/-- An item with matches is applied to each, in a free order (R48, log 10). -/
theorem State.applyItem_matched (h : s.matchesOf sender instrument it.field ≠ []) :
    s.applyItem sender instrument it = ({ s with freeCount := s.freeCount + 1 } : State).applyMatches sender it.value
      (s.inFreeOrder (s.matchesOf sender instrument it.field)) := by
  unfold State.applyItem
  split
  next hn => exact absurd hn h
  next n ns hn => rw [hn]; rfl

/-- With or without a match, the field table is that after the matches have been judged in some order. -/
theorem State.applyItem_fields (s : State) (sender instrument : Nat) (it : Item) :
    ∃ (order : List Nat) (k : Nat), order.Perm (s.matchesOf sender instrument it.field) ∧
      (s.applyItem sender instrument it).fields =
        (({ s with freeCount := k } : State).applyMatches sender it.value order).fields := by
  by_cases h : s.matchesOf sender instrument it.field = []
  · exact ⟨[], s.freeCount, by rw [h], by rw [State.applyItem_unmatched h]; rfl⟩
  · exact ⟨_, _, s.inFreeOrder_perm _, by rw [State.applyItem_matched h]⟩

theorem State.nodup_matchesOf (s : State) (sender instrument field : Nat) :
    (s.matchesOf sender instrument field).Nodup := List.nodup_range.filter _

theorem State.length_matchesOf_le (s : State) (sender instrument field : Nat) :
    (s.matchesOf sender instrument field).length ≤ 256 :=
  (List.length_filter_le _ _).trans (by simp)

/-- The matches of an item are counted, and those of them that are conflated and rejected (R49, R51). -/
theorem State.risesTo_applyItem {ns : List Nat} (hc : ∀ n, s.counter n ≤ Config.counterTop)
    (hns : ns = s.matchesOf sender instrument it.field) (h : ns ≠ []) :
    s.risesTo (s.applyItem sender instrument it)
      [(37, (s.takenAmong it.value ns).length), (39, (s.keptAmong it.value ns).length),
        (43, ns.length - (s.takenAmong it.value ns).length)] := by
  subst hns
  have perm := s.inFreeOrder_perm (s.matchesOf sender instrument it.field)
  have rises := State.risesTo_applyMatches (s := { s with freeCount := s.freeCount + 1 }) (sender := sender)
    (v := it.value) (State.risesTo_refl hc) (perm.nodup_iff.2 (s.nodup_matchesOf _ _ _))
  rw [State.applyItem_matched h, ← State.countP_suits, ← State.countP_conflates, State.countP_suits,
    ← State.countP_rejected, ← State.countP_suits]
  rw [perm.countP_eq, perm.countP_eq, perm.countP_eq] at rises
  exact rises

end Matches

/-! ## The obligation -/

/-- Settles O28: an item judges its matches in some order, and each kind of match is counted and written as
`State.slot_applyMatches_taken` and its neighbours say, whatever the order. -/
theorem itemMatchesAndConflates : Obligations.ItemMatchesAndConflates := by
  unfold Obligations.ItemMatchesAndConflates
  intro s sender instrument it matched taken kept hc hmatched htaken hkept
  replace hmatched : matched = s.matchesOf sender instrument it.field := hmatched
  replace htaken : taken = s.takenAmong it.value matched := by rw [htaken]; cases it.value <;> rfl
  replace hkept : kept = s.keptAmong it.value matched := by rw [hkept, htaken, State.keptAmong]
  subst htaken hkept
  obtain ⟨order, k, perm, fields⟩ := s.applyItem_fields sender instrument it
  rw [← hmatched] at perm
  have nodup : order.Nodup := perm.nodup_iff.2 (hmatched ▸ s.nodup_matchesOf _ _ _)
  have short : order.length < 2 ^ 32 := by
    rw [perm.length_eq, hmatched]
    exact lt_of_le_of_lt (s.length_matchesOf_le _ _ _) (by decide)
  have mem_order : ∀ n, n ∈ s.takenAmong it.value matched ↔ n ∈ s.takenAmong it.value order := by
    intro n; rw [State.mem_takenAmong, State.mem_takenAmong, perm.mem_iff]
  have fresh : ∀ n ∈ s.takenAmong it.value matched, (s.slot n).pending = none →
      n ∈ s.freshAmong it.value order :=
    fun n hn hp => State.mem_freshAmong.2 ⟨(mem_order n).1 hn, hp⟩
  have slot_eq : ∀ n, (s.applyItem sender instrument it).slot n =
      (({ s with freeCount := k } : State).applyMatches sender it.value order).slot n := by
    intro n; rw [State.slot, fields]; rfl
  refine ⟨_, rfl, ?frame, fun h => ?unmatched, State.risesTo_applyItem hc hmatched, fun n hn => ?left,
    ⟨s.stampIn it.value order, fun n hn => ⟨?holds, fun old hp => State.stampIn_kept hp,
      fun hp => ⟨(s.freshAmong it.value order).idxOf n, ?bound, State.stampIn_fresh hp⟩⟩,
      fun n hn m hm hp hq e => State.eq_of_stampIn_eq short (fresh n hn hp) (fresh m hm hq) e⟩, ?stamp⟩
  case frame =>
    obtain ⟨_, _, _, e⟩ := s.applyItem_frame sender instrument it
    rw [e]
    rfl
  case unmatched =>
    rw [State.applyItem_unmatched (hmatched ▸ h)]
    exact State.risesTo_bump (State.risesTo_refl hc) 38 1
  case left =>
    rw [slot_eq]
    exact State.slot_applyMatches_left fun h => hn ((mem_order n).2 (State.mem_takenAmong.2 h))
  case holds =>
    obtain ⟨ho, hs⟩ := State.mem_takenAmong.1 ((mem_order n).1 hn)
    rw [slot_eq]
    exact State.slot_applyMatches_taken nodup ho hs
  case bound =>
    rw [← State.length_freshAmong perm]
    exact List.idxOf_lt_length_of_mem (fresh n hn hp)
  case stamp =>
    rw [fields, ← State.length_freshAmong perm]
    exact State.stamp_applyMatches nodup

end Sys2Proof.Machine
end

section
/-!
PROOFS. Rescaling and the tick comparison (R58, R59, R73, R74): the rescaled value as exact integer bounds, and the
comparison of two values at different scales as a comparison of cross products.
-/
namespace Sys2Proof.Machine

/-! ## Rescaling (R58, R59) -/

/-- At no fewer places than the scale, rescaling is exact (R58). -/
theorem rescale_of_le (v : Int) {s d : Nat} (h : s ≤ d) : rescale v s d = v * 10 ^ (d - s) := if_pos h

/-- At fewer places than the scale, the magnitude is the quotient of R59. -/
theorem natAbs_rescale (v : Int) {s d : Nat} (h : d < s) :
    (rescale v s d).natAbs = (2 * v.natAbs + 10 ^ (s - d)) / (2 * 10 ^ (s - d)) := by
  rw [rescale, if_neg (by omega)]
  split
  · exact Int.natAbs_neg _
  · rfl

theorem rescale_zero (s d : Nat) : rescale 0 s d = 0 := by
  by_cases h : s ≤ d
  · rw [rescale_of_le _ h, zero_mul]
  · have hq : 0 < 10 ^ (s - d) := by positivity
    rw [← Int.natAbs_eq_zero, natAbs_rescale _ (not_le.1 h)]
    exact Nat.div_eq_of_lt (by rw [Int.natAbs_zero]; omega)

/-- Rescaling treats both sides of zero alike: an exact half goes away from zero on either (R59). -/
theorem rescale_neg (v : Int) (s d : Nat) : rescale (-v) s d = -rescale v s d := by
  by_cases h : s ≤ d
  · rw [rescale_of_le _ h, rescale_of_le _ h, neg_mul]
  · rcases lt_trichotomy v 0 with hv | rfl | hv
    · simp only [rescale, if_neg h, Int.natAbs_neg]
      rw [if_neg (by omega), if_pos hv, neg_neg]
    · rw [neg_zero, rescale_zero, neg_zero]
    · simp only [rescale, if_neg h, Int.natAbs_neg]
      rw [if_pos (by omega), if_neg (by omega)]

theorem rescale_nonneg {v : Int} (hv : 0 ≤ v) (s d : Nat) : 0 ≤ rescale v s d := by
  by_cases h : s ≤ d
  · rw [rescale_of_le _ h]
    exact mul_nonneg hv (by positivity)
  · rw [rescale, if_neg h, if_neg (by omega)]
    exact Int.natCast_nonneg _

theorem rescale_nonpos {v : Int} (hv : v ≤ 0) (s d : Nat) : rescale v s d ≤ 0 := by
  have h : 0 ≤ rescale (-v) s d := rescale_nonneg (by omega) s d
  rw [rescale_neg] at h
  omega

/-- The magnitude is the nearest whole number, and of two equally near the greater (R59). -/
theorem natAbs_rescale_bounds (v : Int) {s d : Nat} (h : d < s) :
    2 * (rescale v s d).natAbs * 10 ^ (s - d) ≤ 2 * v.natAbs + 10 ^ (s - d) ∧
      2 * v.natAbs + 10 ^ (s - d) < 2 * ((rescale v s d).natAbs + 1) * 10 ^ (s - d) := by
  have hq : 0 < 2 * 10 ^ (s - d) := by positivity
  have low := Nat.div_mul_le_self (2 * v.natAbs + 10 ^ (s - d)) (2 * 10 ^ (s - d))
  have high := Nat.lt_mul_of_div_lt (Nat.lt_succ_self ((2 * v.natAbs + 10 ^ (s - d)) / (2 * 10 ^ (s - d)))) hq
  rw [← natAbs_rescale v h] at low high
  constructor <;> linarith

/-! ## The tick comparison (R73) -/

/-- Exchanging the two values exchanges their products. -/
theorem tickProducts_swap (sOld sNew : Nat) (vOld vNew : Int) :
    (tickProducts sOld vOld sNew vNew).swap = tickProducts sNew vNew sOld vOld := by
  rw [tickProducts, tickProducts, Prod.swap_prod_mk, max_comm]

/-- The old product of R73 is the cross product of the old value, up to a common power of ten. -/
theorem tickProducts_fst_mul (sOld sNew : Nat) (vOld vNew : Int) :
    (tickProducts sOld vOld sNew vNew).1 * 10 ^ min sOld sNew = vOld * 10 ^ sNew := by
  rw [tickProducts, mul_assoc, ← pow_add]
  congr 2
  omega

/-- The new product of R73 is the cross product of the new value, up to the same power of ten. -/
theorem tickProducts_snd_mul (sOld sNew : Nat) (vOld vNew : Int) :
    (tickProducts sOld vOld sNew vNew).2 * 10 ^ min sOld sNew = vNew * 10 ^ sOld := by
  rw [← Prod.fst_swap, tickProducts_swap, min_comm, tickProducts_fst_mul]

theorem tickProducts_fst_lt_snd (sOld sNew : Nat) (vOld vNew : Int) :
    (tickProducts sOld vOld sNew vNew).1 < (tickProducts sOld vOld sNew vNew).2 ↔
      vOld * 10 ^ sNew < vNew * 10 ^ sOld := by
  rw [← tickProducts_fst_mul sOld sNew vOld vNew, ← tickProducts_snd_mul sOld sNew vOld vNew]
  exact (mul_lt_mul_iff_left₀ (by positivity)).symm

theorem tickProducts_snd_lt_fst (sOld sNew : Nat) (vOld vNew : Int) :
    (tickProducts sOld vOld sNew vNew).2 < (tickProducts sOld vOld sNew vNew).1 ↔
      vNew * 10 ^ sOld < vOld * 10 ^ sNew := by
  rw [← tickProducts_swap sNew sOld, Prod.snd_swap, Prod.fst_swap, tickProducts_fst_lt_snd]

/-- The direction and the change of a numeric value over a numeric value shown (R73). -/
theorem tickOf_numeric (dir : Direction) (sOld sNew src : Nat) (vOld vNew : BitVec 32) :
    tickOf dir (some ⟨.numeric sOld vOld, src⟩) (.numeric sNew vNew) =
      if vOld.toInt * 10 ^ sNew < vNew.toInt * 10 ^ sOld then (.up, true)
      else if vNew.toInt * 10 ^ sOld < vOld.toInt * 10 ^ sNew then (.down, true) else (dir, false) := by
  simp only [tickOf, tickProducts_fst_lt_snd, tickProducts_snd_lt_fst]

/-- A first value is no change (R74). -/
theorem tickOf_first (dir : Direction) (v : Value) : tickOf dir none v = (.none, false) := by
  cases v <;> rfl

/-- A text value is no change (R74). -/
theorem tickOf_text (dir : Direction) (shown : Option Shown) (glyphs : List Byte) :
    tickOf dir shown (.text glyphs) = (.none, false) := rfl

/-! ## The obligation -/

/-- Settles O50: the bounds are `natAbs_rescale_bounds`, the signs those of `rescale_nonneg` and
`rescale_nonpos`, and the directions those of `tickOf_numeric`. -/
theorem rescaleAndTickExact : Obligations.RescaleAndTickExact := by
  unfold Obligations.RescaleAndTickExact
  refine ⟨fun v s d h => rescale_of_le v h, fun v m s d h hm => ?rounds, fun dir sOld sNew src vOld vNew move hmove =>
    ?tick, tickOf_first, tickOf_text⟩
  case rounds =>
    subst hm
    obtain ⟨low, high⟩ := natAbs_rescale_bounds v h
    refine ⟨low, high, fun pos => ?_, fun neg => ?_⟩
    · by_contra hv
      exact pos.not_ge (rescale_nonpos (not_lt.1 hv) s d)
    · by_contra hv
      exact neg.not_ge (rescale_nonneg (not_lt.1 hv) s d)
  case tick =>
    rw [tickOf_numeric] at hmove
    subst hmove
    refine ⟨fun up => if_pos up, fun down => ?_, fun same => ?_⟩
    · rw [if_neg down.not_gt, if_pos down]
    · rw [if_neg same.ge.not_gt, if_neg same.le.not_gt]

end Sys2Proof.Machine
end

section
/-!
PROOFS. Write units: what the scan engine reads while one is applied (R102, R109), and how the text writer's unit for a
PAINT frame ends (R20, R101).
-/
namespace Sys2Proof.Machine

/-! ## The scan engine during a write unit (R109) -/

/-- A final part of a list is what remains when all but its length is dropped. -/
theorem drop_length_sub_drop_length {α : Type} (l : List α) (n : Nat) :
    l.drop (l.length - (l.drop n).length) = l.drop n := by
  rcases Nat.le_total n l.length with h | h
  · rw [List.length_drop, Nat.sub_sub_self h]
  · simp [List.drop_eq_nil_of_le h]

/-- The levels that a unit closes are the top ones of the stack. -/
theorem State.closing_eq_drop (s : State) :
    s.overlay.levels.drop (s.overlay.levels.length - s.closing.length) = s.closing := by
  have top : ∃ n, s.closing = s.overlay.levels.drop n := by
    unfold State.closing
    split
    · exact ⟨_, rfl⟩
    · exact ⟨0, rfl⟩
    · exact ⟨0, rfl⟩
    · split
      · exact ⟨_, rfl⟩
      · exact ⟨_, List.drop_length.symm⟩
    · exact ⟨_, List.drop_length.symm⟩
  obtain ⟨n, h⟩ := top
  rw [h]
  exact drop_length_sub_drop_length _ n

/-- A stage of the unit's closes holds each cell as it was or as the close of one of the closed levels restored it
(R117). -/
theorem State.closing_stage_get {s : State} (hw : storeWf cellBlank s.store.cells = true) {m : Store Cell}
    (hm : m ∈ State.closeStages s.closing.length s) : storeWf cellBlank m = true ∧
      ∀ i, storeGet cellBlank m i = s.cell i ∨ s.Restores i (storeGet cellBlank m i) := by
  obtain ⟨wf, get⟩ := State.closeStages_get _ s hw m hm
  refine ⟨wf, fun i => (get i).imp id ?_⟩
  rintro ⟨lv, hlv, hi, hc⟩
  rw [State.closing_eq_drop] at hlv
  obtain ⟨y, x, hy, hx, e⟩ := (lv.mem_cells i).1 hi
  exact ⟨lv, hlv, y, x, hy, hx, e, hc⟩

/-- The scan engine reads on while a unit is applied (R102, R109). -/
theorem State.scansOn_scanned (s t : State) : s.ScansOn (t.scanned s) := by
  intro canonical wf
  have wf : storeWf cellBlank t.store.cells = true := wf
  have stages : ∀ m ∈ s.store.cells :: (State.closeStages s.closing.length s ++ [t.store.cells]),
      storeWf cellBlank m = true := by
    intro m hm
    rcases List.mem_cons.1 hm with rfl | hm
    · exact canonical.cells
    · rcases List.mem_append.1 hm with hm | hm
      · exact (State.closing_stage_get canonical.cells hm).1
      · exact List.mem_singleton.1 hm ▸ wf
  refine ⟨Nat.le_max_left _ _, fun i hi => ?before, fun i hi hn => ?meanwhile⟩
  case before =>
    have hn : i < (t.scanned s).scan.read := lt_of_lt_of_le hi (Nat.le_max_left _ _)
    unfold State.shownCell
    rw [if_pos hn, if_pos hi]
    exact (State.readOn_get s _ _ i stages).trans (if_pos hi)
  case meanwhile =>
    obtain ⟨m, hm, e⟩ := State.readOn_mem s _ _ i stages hi hn
    have shown : (t.scanned s).shownCell i = storeGet cellBlank m i := (if_pos hn).trans e
    rw [shown]
    rcases List.mem_cons.1 hm with rfl | hm
    · exact .inl rfl
    · rcases List.mem_append.1 hm with hm | hm
      · exact ((State.closing_stage_get canonical.cells hm).2 i).imp id .inl
      · exact .inr (.inr (List.mem_singleton.1 hm ▸ rfl))

/-! ## The end of the text writer's unit (R20, R101) -/

/-- A paint's grant does not read the dispatcher's hand. -/
theorem State.grantPaint_with_hand (s : State) (h : Hand) :
    ({ s with hand := h } : State).grantPaint = { s.grantPaint with hand := h } := by
  have checks : ∀ n g, ({ s with hand := h } : State).passesChecks n g = s.passesChecks n g := fun _ _ => rfl
  unfold State.grantPaint
  dsimp only
  split
  next n g value source _ _ =>
    rw [checks]
    split <;> rfl
  next => rfl
  next => rfl

/-- No grant reads the dispatcher's hand. -/
theorem State.grant_with_hand (s : State) (w : Writer) (h : Hand) :
    ({ s with hand := h } : State).grant w = { s.grant w with hand := h } := by
  cases w with
  | overlay =>
    unfold State.grant State.grantOverlay
    dsimp only
    split <;> rfl
  | crawl => rfl
  | paint => exact State.grantPaint_with_hand { s with port := { s.port with holder := some .paint } } h
  | text => rfl

theorem State.portPassed_with_hand (s : State) (next : Option Writer) (h : Hand) :
    ({ s with hand := h } : State).portPassed next = { s.portPassed next with hand := h } := by
  cases next with
  | none => rfl
  | some w => exact State.grant_with_hand { s with port := { holder := none, decided := .standing } } w h

/-- A freed port finishes the PAINT frame in hand; no warm reset waits for it while RUNNING (R20, R154). -/
theorem State.textEnded_of_release {s t : State} {f : RxFrame}
    (e : ({ s with text := none } : State).release = t) (hm : t.control.mode = .running) (hh : t.hand = .paint f) :
    s.textEnded = { t with hand := .idle } := by
  unfold State.textEnded State.afterUnit
  simp [e, hh, hm]

/-- While RUNNING, the end of a run's unit finishes the PAINT frame and passes the port on. -/
theorem State.textEnded_paint {s : State} {f : RxFrame} (hm : s.control.mode = .running) (hh : s.hand = .paint f) :
    s.textEnded = ({ s with text := none, hand := .idle } : State).portPassed
      (grantOrder s.overlay.request.isSome s.crawl.request s.paint.isSome false) := by
  rw [State.textEnded_of_release rfl (by simpa using hm) (by simpa using hh),
    State.release_eq_portPassed _ (by simp [hm])]
  exact (State.portPassed_with_hand { s with text := none } _ .idle).symm

end Sys2Proof.Machine
end

section
/-!
PROOFS. Runs of text (R106, R107): the cells that a run is for, what a BASE run leaves in the base layer and counts, and
what a TOP run leaves on the screen.
-/
namespace Sys2Proof.Machine

/-! ## The cells of a run -/

theorem cellKey_add (row col j : Nat) : cellKey row (col + j) = cellKey row col + j := by
  unfold cellKey
  omega

/-- The numbers of a run's glyphs whose columns lie within the limit. -/
def Run.kept (r : Run) (limit : Nat) : List Nat :=
  (List.range r.glyphs.length).filter (fun j => decide (r.col + j < limit))

/-- The cells of a run's glyphs within the limit, its first glyph being for the cell `start`. -/
def Run.keys (r : Run) (start limit : Nat) : List Nat := (r.kept limit).map (start + ·)

/-- What a run writes to a cell, its first glyph being for the cell `start`. -/
def Run.cellAt (r : Run) (start i : Nat) : Cell := r.cell (r.glyphs.getD (i - start) 0)

theorem Run.mem_kept {r : Run} {limit j : Nat} :
    j ∈ r.kept limit ↔ j < r.glyphs.length ∧ r.col + j < limit := by
  simp [Run.kept]

theorem Run.mem_keys {r : Run} {start limit i : Nat} :
    i ∈ r.keys start limit ↔ ∃ j, j < r.glyphs.length ∧ r.col + j < limit ∧ i = start + j := by
  simp [Run.keys, Run.mem_kept, and_assoc, eq_comm]

theorem Run.cellAt_add {r : Run} {j : Nat} {g : Byte} (h : r.glyphs[j]? = some g) (start : Nat) :
    r.cellAt start (start + j) = { glyph := frameGlyph g, fg := r.fg, bg := r.bg, attrs := r.attrs } := by
  simp [Run.cellAt, Run.cell, h]

/-- The columns of a run, by the numbers of its glyphs. -/
theorem Run.columns_eq_map (r : Run) (limit : Nat) :
    r.columns limit = (r.kept limit).map (fun j => (r.col + j, r.glyphs.getD j 0)) := by
  have glyphs : r.glyphs = (List.range r.glyphs.length).map (fun j => r.glyphs.getD j 0) :=
    List.ext_getElem (by simp) fun i hi _ => by simp [List.getElem?_eq_getElem hi]
  have columns : r.columns limit = (((List.range r.glyphs.length).map (r.col + ·)).zip
      ((List.range r.glyphs.length).map (fun j => r.glyphs.getD j 0))).filter (fun e => decide (e.1 < limit)) := by
    rw [← glyphs]
    rfl
  rw [columns, List.zip_map', List.filter_map]
  rfl

/-- The writes of a run to consecutive cells, one for each of its columns. -/
theorem Run.columns_map_write (r : Run) (limit : Nat) {start : Nat} {key : Nat → Nat}
    (h : ∀ j, key (r.col + j) = start + j) :
    (r.columns limit).map (fun e => (key e.1, r.cell e.2)) =
      (r.keys start limit).map (fun i => (i, r.cellAt start i)) := by
  rw [Run.columns_eq_map, Run.keys, List.map_map, List.map_map]
  refine List.map_congr_left fun j _ => ?_
  simp [h, Run.cellAt]

/-- `t` is `s` but for cells, save records and running counters: all that a run may touch (R106, R107). -/
def State.RunTouches (s t : State) : Prop := ∃ cells save counters, t = { s with
  store := { s.store with cells := cells }
  overlay := { s.overlay with save := save }
  control := { s.control with running := counters } }

/-! ## BASE run (R106) -/

/-- One write of a BASE run: made where no one owns the cell, else skipped and counted. -/
def State.writeFree (s : State) (e : Nat × Cell) : State :=
  if s.ownerOf e.1 = .none then s.writeBase e.1 e.2 else s.bump 46 1

/-- A BASE run is its writes, one after the other. -/
theorem State.applyBaseRun_eq_foldl (s : State) (r : Run) : s.applyBaseRun r =
    ((r.keys (cellKey r.row r.col) 128).map (fun i => (i, r.cellAt (cellKey r.row r.col) i))).foldl
      State.writeFree s := by
  rw [← Run.columns_map_write r 128 (cellKey_add r.row r.col), List.foldl_map]
  rfl

@[simp] theorem State.writeBase_ownerOf (s : State) (i j : Nat) (c : Cell) :
    (s.writeBase i c).ownerOf j = s.ownerOf j := by
  obtain ⟨_, _, e⟩ := s.writeBase_frame i c
  rw [e]
  rfl

@[simp] theorem State.bump_ownerOf (s : State) (n a j : Nat) : (s.bump n a).ownerOf j = s.ownerOf j := rfl

/-- A base-layer write and an increase of a counter can change places. -/
theorem State.writeBase_bump (s : State) (i : Nat) (c : Cell) (n a : Nat) :
    (s.bump n a).writeBase i c = (s.writeBase i c).bump n a := by
  have key : (s.bump n a).saveKey i = s.saveKey i := rfl
  unfold State.writeBase
  rw [key]
  cases s.saveKey i <;> rfl

theorem State.writeBaseAll_bump (s : State) (ps : List (Nat × Cell)) (n a : Nat) :
    (s.bump n a).writeBaseAll ps = (s.writeBaseAll ps).bump n a := by
  induction ps generalizing s with
  | nil => rfl
  | cons e ps ih => exact (congrArg (State.writeBaseAll · ps) (s.writeBase_bump e.1 e.2 n a)).trans (ih _)

/-- But for the counters, the writes of a BASE run are the base-layer writes to the cells that no one owns. -/
theorem State.foldl_writeFree (s : State) (ps : List (Nat × Cell)) : ps.foldl State.writeFree s =
    (s.writeBaseAll (ps.filter (fun e => decide (s.ownerOf e.1 = .none)))).withRunning
      (ps.foldl State.writeFree s) := by
  induction ps generalizing s with
  | nil => rfl
  | cons e ps ih =>
    rw [List.foldl_cons]
    by_cases free : s.ownerOf e.1 = .none
    · have write : s.writeFree e = s.writeBase e.1 e.2 := if_pos free
      rw [write, List.filter_cons_of_pos (by simpa using free)]
      refine (ih _).trans ?_
      simp only [State.writeBase_ownerOf]
      rfl
    · have count : s.writeFree e = s.bump 46 1 := if_neg free
      rw [count, List.filter_cons_of_neg (by simpa using free)]
      refine (ih _).trans ?_
      simp only [State.bump_ownerOf, State.writeBaseAll_bump]
      rfl

/-- The writes of a BASE run count the owned cells (counter 46). -/
theorem State.risesTo_foldl_writeFree {s₀ s : State} {l : List (Nat × Nat)} (h : s₀.risesTo s l)
    (ps : List (Nat × Cell)) : s₀.risesTo (ps.foldl State.writeFree s)
      (l ++ [(46, ps.countP (fun e => decide (s.ownerOf e.1 ≠ .none)))]) := by
  induction ps generalizing s l with
  | nil => exact State.risesTo_congr h rfl (by simp)
  | cons e ps ih =>
    rw [List.foldl_cons]
    by_cases free : s.ownerOf e.1 = .none
    · have write : s.writeFree e = s.writeBase e.1 e.2 := if_pos free
      obtain ⟨_, _, frame⟩ := s.writeBase_frame e.1 e.2
      have same : (s.writeBase e.1 e.2).control.running = s.control.running := by rw [frame]
      rw [write]
      simpa [free] using ih (State.risesTo_congr h same fun _ => rfl)
    · have count : s.writeFree e = s.bump 46 1 := if_neg free
      rw [count]
      refine State.risesTo_congr (ih (State.risesTo_bump h 46 1)) rfl fun n => ?_
      have owners : (fun e : Nat × Cell => decide ((s.bump 46 1).ownerOf e.1 ≠ .none)) =
          fun e => decide (s.ownerOf e.1 ≠ .none) := rfl
      rw [owners, List.countP_cons_of_pos (by simpa using free)]
      simp only [amountFor_append, amountFor_cons, amountFor_nil]
      split_ifs <;> omega

theorem State.foldl_writeFree_touches (s : State) (ps : List (Nat × Cell)) :
    s.RunTouches (ps.foldl State.writeFree s) := by
  obtain ⟨cells, save, frame⟩ := s.writeBaseAll_frame (ps.filter (fun e => decide (s.ownerOf e.1 = .none)))
  rw [State.foldl_writeFree, frame]
  exact ⟨cells, save, _, rfl⟩

theorem State.applyBaseRun_touches (s : State) (r : Run) : s.RunTouches (s.applyBaseRun r) :=
  s.applyBaseRun_eq_foldl r ▸ s.foldl_writeFree_touches _

/-- The cells that a BASE run writes: those of its glyphs up to column 127 that no one owns (R106). -/
def State.freeKeys (s : State) (r : Run) : List Nat :=
  (r.keys (cellKey r.row r.col) 128).filter (fun i => decide (s.ownerOf i = .none))

theorem State.mem_freeKeys {s : State} {r : Run} {i : Nat} : i ∈ s.freeKeys r ↔
    ∃ j, j < r.glyphs.length ∧ r.col + j < 128 ∧ i = cellKey r.row (r.col + j) ∧ s.ownerOf i = .none := by
  simp only [State.freeKeys, List.mem_filter, Run.mem_keys, cellKey_add, decide_eq_true_eq]
  exact ⟨fun ⟨⟨j, hj, hc, hi⟩, ho⟩ => ⟨j, hj, hc, hi, ho⟩, fun ⟨j, hj, hc, hi, ho⟩ => ⟨⟨j, hj, hc, hi⟩, ho⟩⟩

/-- What a BASE run leaves in the base layer, on the screen and in the save records (R106). -/
theorem State.paintsBase_applyBaseRun {s : State} (h : s.OverlayLaw) (r : Run) :
    s.paintsBase (s.applyBaseRun r) (s.freeKeys r) (r.cellAt (cellKey r.row r.col)) := by
  rw [State.applyBaseRun_eq_foldl, State.foldl_writeFree, List.filter_map]
  exact State.paintsBase_writeBaseAll h (s.freeKeys r) _

/-- A BASE run counts the owned cells among those of its glyphs up to column 127 (R106). -/
theorem State.risesTo_applyBaseRun {s : State} (hc : ∀ n, s.counter n ≤ Config.counterTop) (r : Run) :
    s.risesTo (s.applyBaseRun r) [(46, ((List.range r.glyphs.length).filter (fun j =>
      decide (r.col + j < 128) && decide (s.ownerOf (cellKey r.row (r.col + j)) ≠ .none))).length)] := by
  rw [State.applyBaseRun_eq_foldl]
  refine State.risesTo_congr (State.risesTo_foldl_writeFree (State.risesTo_refl hc) _) rfl fun n => ?_
  rw [List.countP_map, Run.keys, List.countP_map, Run.kept, List.countP_filter, List.countP_eq_length_filter,
    List.nil_append]
  simp [Function.comp_def, cellKey_add, Bool.and_comm]

/-! ## TOP run (R107) -/

/-- The interior of a level lies within its border, where it has one. -/
theorem Level.interior_eq {lv : Level} {edge : Nat} (h : edge = if lv.border then 1 else 0) :
    lv.interior = (lv.top + edge, lv.left + edge, lv.height - 2 * edge, lv.width - 2 * edge) := by
  subst h
  unfold Level.interior
  cases lv.border <;> rfl

/-- With no level open a TOP run is unusable. -/
theorem State.applyTopRun_nil {s : State} (h : s.overlay.levels = []) (r : Run) : s.applyTopRun r = s.bump 36 1 := by
  simp [State.applyTopRun, h, State.countUnusable_eq]

section TopLevel

variable {s : State} {r : Run} {below : List Level} {lv : Level} {edge : Nat}
  (hl : s.overlay.levels = below ++ [lv]) (he : edge = if lv.border then 1 else 0)

include hl he

/-- Inside the interior a TOP run is its writes to the screen. -/
theorem State.applyTopRun_inside {start : Nat}
    (hs : start = cellKey (lv.top + edge + r.row) (lv.left + edge + r.col))
    (hin : r.row < lv.height - 2 * edge ∧ r.col < lv.width - 2 * edge) : s.applyTopRun r =
      s.setCells ((r.keys start (lv.width - 2 * edge)).map (fun i => (i, r.cellAt start i))) := by
  have key : ∀ j, cellKey (lv.top + edge + r.row) (lv.left + edge + (r.col + j)) = start + j := fun j => by
    rw [hs, ← Nat.add_assoc, cellKey_add]
  rw [← Run.columns_map_write r _ (key := fun c => cellKey (lv.top + edge + r.row) (lv.left + edge + c)) key]
  simp [State.applyTopRun, hl, Level.interior_eq he, hin]

/-- The screen after a TOP run inside the interior. -/
theorem State.cell_applyTopRun {start : Nat}
    (hs : start = cellKey (lv.top + edge + r.row) (lv.left + edge + r.col))
    (hin : r.row < lv.height - 2 * edge ∧ r.col < lv.width - 2 * edge) (i : Nat) : (s.applyTopRun r).cell i =
      if i ∈ r.keys start (lv.width - 2 * edge) then r.cellAt start i else s.cell i := by
  rw [State.applyTopRun_inside hl he hs hin]
  exact State.cell_setCells_map s _ _ i

/-- Outside the interior a TOP run is unusable. -/
theorem State.applyTopRun_outside (hout : lv.height - 2 * edge ≤ r.row ∨ lv.width - 2 * edge ≤ r.col) :
    s.applyTopRun r = s.bump 36 1 := by
  have out : ¬ (r.row < lv.height - 2 * edge ∧ r.col < lv.width - 2 * edge) := by omega
  simp only [State.applyTopRun, hl, List.getLast?_concat, Level.interior_eq he, if_neg out, State.countUnusable_eq]

end TopLevel

theorem State.applyTopRun_touches (s : State) (r : Run) : s.RunTouches (s.applyTopRun r) := by
  have unusable : s.RunTouches s.countUnusable := ⟨s.store.cells, s.overlay.save, _, rfl⟩
  have writes : ∀ ps, s.RunTouches (s.setCells ps) := fun ps => ⟨_, s.overlay.save, s.control.running, rfl⟩
  unfold State.applyTopRun
  dsimp only
  split
  · exact unusable
  · split
    · exact writes _
    · exact unusable

/-! ## The end of a run -/

/-- The painter when a run's unit has taken it from `s` to `t` and the port is passed on. -/
def State.runEnded (s t : State) : State := ({ t with text := none, hand := .idle } : State).scanned s

theorem State.scansOn_runEnded (s t : State) : s.ScansOn (s.runEnded t) := s.scansOn_scanned _

/-- A unit that writes cells and save records and counts ends a run so (R101, R105). -/
theorem State.textEnded_scanned {s t : State} {f : RxFrame} (hm : s.control.mode = .running) (hh : s.hand = .paint f)
    (ht : s.RunTouches t) : (t.scanned s).textEnded = (s.runEnded t).portPassed
      (grantOrder s.overlay.request.isSome s.crawl.request s.paint.isSome false) := by
  obtain ⟨cells, save, counters, rfl⟩ := ht
  exact State.textEnded_paint hm hh

/-- BASE_RUN at the end of its unit, while RUNNING. -/
theorem exec_baseRun {s : State} {r : Run} {f : RxFrame} (hm : s.control.mode = .running)
    (hp : s.port.holder = some .text) (ht : s.text = some (.base r)) (hh : s.hand = .paint f) :
    exec .baseRun s = .next ((s.runEnded (s.applyBaseRun r)).portPassed
      (grantOrder s.overlay.request.isSome s.crawl.request s.paint.isSome false)) := by
  rw [← State.textEnded_scanned hm hh (s.applyBaseRun_touches r)]
  simp [exec, execBaseRun, goOn, State.endBaseRun, hp, ht]

/-- TOP_RUN at the end of its unit, while RUNNING. -/
theorem exec_topRun {s : State} {r : Run} {f : RxFrame} (hm : s.control.mode = .running)
    (hp : s.port.holder = some .text) (ht : s.text = some (.top r)) (hh : s.hand = .paint f) :
    exec .topRun s = .next ((s.runEnded (s.applyTopRun r)).portPassed
      (grantOrder s.overlay.request.isSome s.crawl.request s.paint.isSome false)) := by
  rw [← State.textEnded_scanned hm hh (s.applyTopRun_touches r)]
  simp [exec, execTopRun, goOn, State.endTopRun, hp, ht]

/-! ## The obligations -/

/-- Settles O33: a BASE run is the base-layer writes to the cells that no one owns (`State.paintsBase_applyBaseRun`) and
the count of the others (`State.risesTo_applyBaseRun`). -/
theorem baseRunApplied : Obligations.BaseRunApplied := by
  unfold Obligations.BaseRunApplied
  intro s r f law counters hm hp ht hh
  obtain ⟨-, -, written, unwritten, covered, records⟩ := State.paintsBase_applyBaseRun law r
  refine ⟨s.runEnded (s.applyBaseRun r), exec_baseRun hm hp ht hh, ?touches, s.scansOn_runEnded _,
    fun j g hg hj ho => ?writes, fun i hi => unwritten i fun hf => ?skips, covered,
    fun k hk => records k fun i hi => ?saves,
    State.risesTo_congr (State.risesTo_applyBaseRun counters r) rfl fun _ => rfl⟩
  case touches =>
    obtain ⟨_, _, _, frame⟩ := s.applyBaseRun_touches r
    rw [frame]
    rfl
  case writes =>
    have hj' : j < r.glyphs.length := (List.getElem?_eq_some_iff.1 hg).1
    exact (written _ (State.mem_freeKeys.2 ⟨j, hj', hj, rfl, ho⟩)).trans
      (cellKey_add r.row r.col j ▸ Run.cellAt_add hg _)
  case skips =>
    obtain ⟨j, hj, hc, e, ho⟩ := State.mem_freeKeys.1 hf
    exact hi j hj hc e ho
  case saves =>
    obtain ⟨j, hj, hc, rfl, -⟩ := State.mem_freeKeys.1 hi
    exact hk j hj hc

/-- Settles O34: a TOP run inside the interior is its writes to the screen (`State.applyTopRun_inside`,
`State.cell_applyTopRun`), any other is one unusable frame. -/
theorem topRunApplied : Obligations.TopRunApplied := by
  unfold Obligations.TopRunApplied
  rintro s r f next hm hp ht hh rfl
  refine ⟨s.runEnded (s.applyTopRun r), exec_topRun hm hp ht hh, s.scansOn_runEnded _, fun hn => ?_,
    fun below lv edge hl he => ⟨fun hrow hcol => ?inside, fun hout => ?_⟩⟩
  · rw [State.applyTopRun_nil hn]
    rfl
  case inside =>
    have cell := State.cell_applyTopRun hl he rfl ⟨hrow, hcol⟩
    refine ⟨?touches, fun j g hg hj => ?written, fun i hi => (cell i).trans (if_neg fun hk => ?unwritten)⟩
    case touches =>
      rw [State.applyTopRun_inside hl he rfl ⟨hrow, hcol⟩]
      rfl
    case written =>
      have hj' : j < r.glyphs.length := (List.getElem?_eq_some_iff.1 hg).1
      rw [cellKey_add]
      exact (cell _).trans ((if_pos (Run.mem_keys.2 ⟨j, hj', hj, rfl⟩)).trans (Run.cellAt_add hg _))
    case unwritten =>
      obtain ⟨j, hj, hc, e⟩ := Run.mem_keys.1 hk
      exact hi j hj hc (e.trans (cellKey_add _ _ _).symm)
  · rw [State.applyTopRun_outside hl he hout]
    rfl

end Sys2Proof.Machine
end

section
/-!
PROOFS. OVERLAY frames (R114, R115): which row judges one, the tests of an OPEN in their order, and what each answers.
-/
namespace Sys2Proof.Machine

/-! ## An OVERLAY frame is judged (R114) -/

/-- A readable OVERLAY operation begins with its code. -/
theorem parseOverlay_head {payload : List Byte} {op : OverlayOp} (h : parseOverlay payload = some op) :
    payload.head? = some (byteOf op.code) := by
  unfold parseOverlay at h
  split at h
  · split at h
    next code => cases h; exact congrArg some code
    next => cases h
  · split at h
    next code => cases h; exact congrArg some code
    next =>
      split at h
      next code => cases h; exact congrArg some code
      next => cases h
  · cases h

/-- A frame with a readable OVERLAY operation is taken by that operation's row. -/
theorem takesOverlay_of_parseOverlay {f : RxFrame} {op : OverlayOp} (hk : f.kind = kindOverlay)
    (hp : parseOverlay f.payload = some op) : takesOverlay op.code f = true := by
  have own : decide ((byteOf op.code).toNat = op.code) = true := by cases op <;> rfl
  simp [takesOverlay, takesOp, hk, parseOverlay_head hp, own]

/-- The row of a frame that is judged hands it to the overlay unit when no request is in hand. -/
theorem State.overlayRow_judges {s u : State} {f : RxFrame} {code : Nat} (h : s.judges f u)
    (hr : u.overlay.request = none) (ht : takesOverlay code f = true) : s.overlayRow code = u.takeOverlay f := by
  rcases h with h | ⟨hm, hh, hn, rfl⟩
  · have idle : s.hand = .idle := by
      obtain ⟨_, ⟨_, idle, _⟩, _⟩ := h
      exact idle
    have row : s.overlayRow code = s.dispatch (takesOverlay code) handOverlay := by
      simp [State.overlayRow, idle]
    rw [row, State.dispatch_reaches h _ ht, handOverlay, hr]
    rfl
  · simp [State.overlayRow, State.isRunning, hm, hh, hn, ht]

/-- The OPEN row judges an OPEN. -/
theorem exec_overlayOpen {s u : State} {f : RxFrame} {op : OpenOp} (h : s.judges f u) (hk : f.kind = kindOverlay)
    (hp : parseOverlay f.payload = some (.openLevel op)) (hr : u.overlay.request = none) :
    exec .overlayOpen s = .next (u.judgeOverlay (.openLevel op) f.sender f.seq) := by
  have row := State.overlayRow_judges h hr (takesOverlay_of_parseOverlay hk hp)
  rw [State.takeOverlay, hp] at row
  exact congrArg Host.Outcome.next row

/-- A request other than an orphan close decides nothing at its grant: it changes nothing but the port's holder
(R101, R114). -/
theorem State.presentOverlay_eq (s : State) {req : OverlayRequest} (hr : req ≠ .orphan) (sender : Nat)
    (seq : BitVec 16) : s.presentOverlay req sender seq = { s with
      overlay := { s.overlay with request := some req }
      hand := .overlayUnit sender seq
      port := { s.port with holder := some (s.port.holder.getD .overlay) } } := by
  unfold State.presentOverlay State.present
  split
  next h =>
    have free : s.port.holder = none := h
    cases req with
    | orphan => exact absurd rfl hr
    | openLevel | close | closeAll | unwinding => simp [State.grant, State.grantOverlay, free]
  next w h =>
    have held : s.port.holder = some w := h
    rw [held, Option.getD_some, ← held]

/-! ## The tests of an OPEN (R115) -/

/-- The second test of R115's table: every field in its range, and room for a border. -/
def OpenOp.InRange (op : OpenOp) : Prop :=
  op.top ≤ 47 ∧ op.left ≤ 127 ∧ 1 ≤ op.height ∧ op.height ≤ 46 ∧ 1 ≤ op.width ∧ op.width ≤ 128 ∧
    op.top + op.height ≤ 48 ∧ op.left + op.width ≤ 128 ∧
    (op.flags = 0 ∨ op.flags = 1 ∧ 3 ≤ op.height ∧ 3 ≤ op.width)

theorem byte_lt_two_iff (b : Byte) : b.toNat < 2 ↔ b = 0 ∨ b = 1 := by
  simp only [← BitVec.toNat_inj]
  simp
  omega

/-- No flag but the border flag is set, and a bordered rectangle has room for its border. -/
theorem OpenOp.flags_iff (op : OpenOp) :
    op.flags.toNat < 2 ∧ (op.flags.getLsbD 0 = false ∨ 3 ≤ op.height ∧ 3 ≤ op.width) ↔
      op.flags = 0 ∨ op.flags = 1 ∧ 3 ≤ op.height ∧ 3 ≤ op.width := by
  rw [byte_lt_two_iff]
  constructor
  · rintro ⟨h | h, border⟩
    · exact .inl h
    · exact .inr ⟨h, border.resolve_left (by simp [h])⟩
  · rintro (h | ⟨h, room⟩)
    · exact ⟨.inl h, .inl (by simp [h])⟩
    · exact ⟨.inr h, .inr room⟩

theorem OpenOp.inRange_iff (op : OpenOp) : op.inRange = true ↔ op.InRange := by
  simp only [OpenOp.InRange, ← OpenOp.flags_iff]
  simp [OpenOp.inRange, and_assoc]

theorem OpenOp.coversRow_iff (op : OpenOp) (crawlRow : Option Nat) : op.coversRow crawlRow = true ↔
    ∃ row, crawlRow = some row ∧ op.top ≤ row ∧ row < op.top + op.height := by
  cases crawlRow <;> simp [OpenOp.coversRow]

theorem OpenOp.coversRow_eq_false_iff (op : OpenOp) (crawlRow : Option Nat) : op.coversRow crawlRow = false ↔
    ∀ row, crawlRow = some row → row < op.top ∨ op.top + op.height ≤ row := by
  rw [Bool.eq_false_iff, Ne, OpenOp.coversRow_iff]
  simp only [not_exists, not_and]
  exact forall₂_congr fun row _ => by omega

section Tests

variable {s : State} {op : OpenOp}

theorem State.openTest_stackFull (h : 8 ≤ s.overlay.levels.length) : s.openTest op = .stackFull := if_pos h

theorem State.openTest_range (room : s.overlay.levels.length < 8) (h : ¬ op.InRange) : s.openTest op = .range := by
  have deep : ¬ Config.maxDepth ≤ s.overlay.levels.length := Nat.not_le.2 room
  simp [State.openTest, deep, OpenOp.inRange_iff, h]

/-- The tests of an OPEN in range below the depth limit, in the order of R115's table. -/
theorem State.openTest_inRange (room : s.overlay.levels.length < 8) (h : op.InRange) : s.openTest op =
    if op.coversRow s.control.config.crawlRow = true then .crawlRow
    else if 2048 < s.overlay.used + op.height * op.width then .saveFull
    else .done := by
  have deep : ¬ Config.maxDepth ≤ s.overlay.levels.length := Nat.not_le.2 room
  simp [State.openTest, deep, op.inRange_iff.2 h, Config.saveAreaSize]

/-- An OPEN that passes its tests is in range. -/
theorem State.inRange_of_openTest (h : s.openTest op = .done) : op.InRange := by
  by_contra out
  rcases Nat.lt_or_ge s.overlay.levels.length 8 with room | full
  · cases (State.openTest_range room out).symm.trans h
  · cases (State.openTest_stackFull full).symm.trans h

end Tests

/-- An OPEN that fails a test is answered with that test's code (R115, R119). -/
theorem State.judgeOverlay_refused {s : State} {op : OpenOp} {code : ResultCode} (ht : s.openTest op = code)
    (hc : code ≠ .done) (sender : Nat) (seq : BitVec 16) : s.judgeOverlay (.openLevel op) sender seq =
      s.queueReply sender kindOverlay seq code ([1, byteOf s.overlay.levels.length,
        byteOf s.overlay.levels.length] ++ bytes16 (BitVec.ofNat 16 s.overlay.used)) := by
  subst ht
  exact if_neg hc

/-- An OPEN that passes its tests becomes the overlay unit's request (R114). -/
theorem State.judgeOverlay_passed {s : State} {op : OpenOp} (ht : s.openTest op = .done) (sender : Nat)
    (seq : BitVec 16) : s.judgeOverlay (.openLevel op) sender seq = { s with
      overlay := { s.overlay with request := some (.openLevel op sender) }
      hand := .overlayUnit sender seq
      port := { s.port with holder := some (s.port.holder.getD .overlay) } } :=
  (if_pos ht).trans (s.presentOverlay_eq (req := .openLevel op sender) nofun sender seq)

/-! ## The obligation -/

/-- Settles O35: the OPEN row judges the frame (`exec_overlayOpen`), and each clause is one row of R115's table
(`State.openTest_stackFull`, `State.openTest_range`, `State.openTest_inRange`). -/
theorem openTested : Obligations.OpenTested := by
  unfold Obligations.OpenTested
  intro s u f op hj hk hp hr refused hrefused
  have refuse : ∀ {code}, u.openTest op = code → code ≠ .done → refused code := fun ht hc =>
    (hrefused _).2 ((exec_overlayOpen hj hk hp hr).trans
      (congrArg Host.Outcome.next (State.judgeOverlay_refused ht hc _ _)))
  refine ⟨fun full => refuse (State.openTest_stackFull full) nofun, fun room good hgood => ?_⟩
  have range : good ↔ op.InRange := hgood
  refine ⟨fun out => refuse (State.openTest_range room fun h => out (range.2 h)) nofun, fun hg covers => ?crawlRow,
    fun hg clear => ?clear⟩
  case crawlRow =>
    have test : u.openTest op = .crawlRow := by
      rw [State.openTest_inRange room (range.1 hg), if_pos ((op.coversRow_iff _).2 covers)]
    exact refuse test nofun
  case clear =>
    have test : u.openTest op = if 2048 < u.overlay.used + op.height * op.width then .saveFull else .done := by
      simp [State.openTest_inRange room (range.1 hg), (op.coversRow_eq_false_iff _).2 clear]
    exact ⟨fun excess => refuse (test.trans (if_pos excess)) nofun, fun fits => (exec_overlayOpen hj hk hp hr).trans
      (congrArg Host.Outcome.next (State.judgeOverlay_passed (test.trans (if_neg (Nat.not_lt.2 fits))) _ _))⟩

end Sys2Proof.Machine
end

section
/-!
PROOFS. The overlay unit: how its write unit for an OVERLAY frame ends (R101, R119, R121), and what a granted OPEN
leaves on the screen, in the cover map and in the save area (R116).
-/
namespace Sys2Proof.Machine

/-! ## The end of the unit (R119, R121) -/

/-- `t` shows the screen of `s`: its cells with their owners and cover levels, what has been read of the display frame,
the open levels and their save area, and the arrival stamps are the same. -/
structure State.SameScreen (s t : State) : Prop where
  store : t.store = s.store
  scan : t.scan = s.scan
  levels : t.overlay.levels = s.overlay.levels
  used : t.overlay.used = s.overlay.used
  save : t.overlay.save = s.overlay.save
  stamp : t.fields.stamp = s.fields.stamp

theorem State.SameScreen.trans {s t u : State} (h : s.SameScreen t) (h' : t.SameScreen u) : s.SameScreen u :=
  ⟨h'.store.trans h.store, h'.scan.trans h.scan, h'.levels.trans h.levels, h'.used.trans h.used,
    h'.save.trans h.save, h'.stamp.trans h.stamp⟩

theorem State.SameScreen.refl (s : State) : s.SameScreen s := ⟨rfl, rfl, rfl, rfl, rfl, rfl⟩

theorem State.SameScreen.cell {s t : State} (h : s.SameScreen t) (i : Nat) : t.cell i = s.cell i := by
  rw [State.cell, h.store]
  rfl

theorem State.SameScreen.coverOf {s t : State} (h : s.SameScreen t) (i : Nat) : t.coverOf i = s.coverOf i := by
  rw [State.coverOf, h.store]
  rfl

theorem State.SameScreen.saved {s t : State} (h : s.SameScreen t) (j : Nat) : t.saved j = s.saved j := by
  rw [State.saved, h.save]
  rfl

theorem State.SameScreen.overlay {s t : State} (h : s.SameScreen t) (request : Option OverlayRequest) :
    { t.overlay with request := request } = { s.overlay with request := request } := by
  simp [h.levels, h.used, h.save]

/-- How far the scan engine has read on is seen on the screen alone. -/
theorem State.ScansOn.sameScreen {s t u : State} (h : s.ScansOn t) (same : t.SameScreen u) : s.ScansOn u := by
  have shown : ∀ i, u.shownCell i = t.shownCell i := fun i => by
    rw [State.shownCell, State.shownCell, same.scan, same.cell]
  intro canonical wf
  simpa only [shown, same.cell, same.scan] using h canonical (same.store ▸ wf)

theorem State.overlayFreed_sameScreen (s : State) : s.SameScreen s.overlayFreed := by
  constructor <;> simp [State.overlayFreed]

theorem State.answerOverlay_sameScreen (s : State) (op level : Nat) : s.SameScreen (s.answerOverlay op level) := by
  unfold State.answerOverlay
  split
  next sender seq _ =>
    obtain ⟨_, _, _, _, reply⟩ := ({ s with hand := .idle } : State).queueReply_frame sender kindOverlay seq .done
      (({ s with hand := .idle } : State).overlayData op level)
    rw [State.overlayReply, reply]
    exact ⟨rfl, rfl, rfl, rfl, rfl, rfl⟩
  next => exact .refl s

theorem State.orphanCheck_sameScreen (s : State) : s.SameScreen s.orphanCheck := by
  obtain ⟨_, _, check⟩ := s.orphanCheck_frame
  rw [check]
  exact ⟨rfl, rfl, rfl, rfl, rfl, rfl⟩

theorem State.needRepaint_sameScreen (s : State) : s.SameScreen s.needRepaint := by
  obtain ⟨_, _, _, repaint⟩ := s.needRepaint_frame
  rw [repaint]
  exact ⟨rfl, rfl, rfl, rfl, rfl, rfl⟩

theorem State.paintTake_sameScreen (s : State) : s.SameScreen s.paintTake := by
  obtain ⟨_, _, _, take⟩ := s.paintTake_frame
  rw [take]
  exact ⟨rfl, rfl, rfl, rfl, rfl, rfl⟩

theorem State.elect_sameScreen (s : State) : s.SameScreen s.elect := by
  obtain ⟨_, _, elected⟩ := s.elect_frame
  rw [elected]
  exact ⟨rfl, rfl, rfl, rfl, rfl, rfl⟩

theorem State.inEitherOrder_sameScreen (s : State) {a b : State → State} (ha : ∀ t : State, t.SameScreen (a t))
    (hb : ∀ t : State, t.SameScreen (b t)) : s.SameScreen (s.inEitherOrder a b) :=
  have drawn : s.SameScreen { s with freeCount := s.freeCount + 1 } := ⟨rfl, rfl, rfl, rfl, rfl, rfl⟩
  s.inEitherOrder_elim a b ((drawn.trans (ha _)).trans (hb _)) ((drawn.trans (hb _)).trans (ha _))

theorem State.enterRunning_sameScreen (s : State) : s.SameScreen s.enterRunning := by
  unfold State.enterRunning
  refine .trans ?_ ((State.elect_sameScreen _).trans
    (State.inEitherOrder_sameScreen _ State.needRepaint_sameScreen State.paintTake_sameScreen))
  exact ⟨rfl, rfl, rfl, rfl, rfl, rfl⟩

theorem State.warmProgress_sameScreen (s : State) : s.SameScreen s.warmProgress := by
  unfold State.warmProgress
  split
  · constructor <;> simp
  · split
    · exact s.enterRunning_sameScreen
    · exact .refl s

theorem State.afterUnit_sameScreen (s : State) : s.SameScreen s.afterUnit := by
  unfold State.afterUnit
  split
  · exact s.warmProgress_sameScreen
  · exact .refl s

/-- The end of an overlay unit leaves the screen and the stack as the unit has made them. -/
theorem State.overlayEnded_sameScreen (s : State) (op level : Nat) : s.SameScreen (s.overlayEnded op level) :=
  ((s.overlayFreed_sameScreen.trans (State.answerOverlay_sameScreen _ _ _)).trans
    (State.orphanCheck_sameScreen _)).trans (State.afterUnit_sameScreen _)

/-! ### The orphan check (R121) -/

/-- The top level counts among the SILENT ones exactly when its requester is SILENT. -/
theorem State.silentTops_concat {s : State} {below : List Level} {lv : Level}
    (h : s.overlay.levels = below ++ [lv]) : 1 ≤ s.silentTops ↔ (s.peer lv.requester).state = .silent := by
  unfold State.silentTops
  rw [h, List.reverse_concat, List.takeWhile_cons]
  split <;> simp_all

/-- While RUNNING the orphan check takes an orphan close for a top level whose requester is SILENT, and else changes
nothing. -/
theorem State.orphansChecked_orphanCheck {s : State} (hm : s.control.mode = .running) :
    s.OrphansChecked s.orphanCheck := by
  refine ⟨fun below lv hl silent free => ?_, fun kept => ?_⟩
  · exact if_pos ⟨decide_eq_true hm, free, (State.silentTops_concat hl).2 silent⟩
  · refine if_neg fun ⟨_, free, tops⟩ => ?_
    rcases kept with busy | empty | ⟨below, lv, hl, live⟩
    · exact busy free
    · simp [State.silentTops, empty] at tops
    · exact live ((State.silentTops_concat hl).1 tops)

/-! ### The answer (R101, R119) -/

@[simp] theorem State.portPassed_overlay (s : State) (next : Option Writer) :
    (s.portPassed next).overlay = s.overlay := by
  cases next <;> simp [State.portPassed]

@[simp] theorem State.portPassed_control (s : State) (next : Option Writer) :
    (s.portPassed next).control = s.control := by
  cases next <;> simp [State.portPassed]

@[simp] theorem State.queueReply_mode (s : State) (dest kind : Nat) (seq : BitVec 16) (code : ResultCode)
    (data : List Byte) : (s.queueReply dest kind seq code data).control.mode = s.control.mode := by
  obtain ⟨_, _, _, _, reply⟩ := s.queueReply_frame dest kind seq code data
  rw [reply]

section Answer

variable {s : State} {sender : Nat} {seq : BitVec 16} (hm : s.control.mode = .running)
  (hh : s.hand = .overlayUnit sender seq) (op level : Nat)

include hm hh

/-- While RUNNING the port is passed on and the frame in hand is answered. -/
theorem State.answerOverlay_overlayFreed {u : State}
    (hu : u = { s with overlay := { s.overlay with request := none }, hand := .idle }) :
    s.overlayFreed.answerOverlay op level =
      (u.portPassed (grantOrder false u.crawl.request u.paint.isSome u.text.isSome)).queueReply sender kindOverlay seq
        .done ([byteOf op, byteOf level, byteOf u.overlay.levels.length] ++
          bytes16 (BitVec.ofNat 16 u.overlay.used)) := by
  subst hu
  have hand : s.overlayFreed.hand = .overlayUnit sender seq := (State.release_hand _).trans hh
  have passed : s.overlayFreed = ({ s with overlay := { s.overlay with request := none } } : State).portPassed
      (grantOrder false s.crawl.request s.paint.isSome s.text.isSome) :=
    State.release_eq_portPassed _ (by simp [hm])
  simp only [State.answerOverlay, hand]
  rw [passed, ← State.portPassed_with_hand, State.overlayReply, State.overlayData, State.portPassed_overlay]

/-- While RUNNING, the end of the unit for the frame in hand passes the port on, answers the frame and makes the orphan
check. -/
theorem State.overlayAnswered_overlayEnded {u : State}
    (hu : u = { s with overlay := { s.overlay with request := none }, hand := .idle }) :
    u.OverlayAnswered (s.overlayEnded op level) sender seq op level := by
  have answer := State.answerOverlay_overlayFreed hm hh op level hu
  have running : (s.overlayFreed.answerOverlay op level).control.mode = .running := by
    rw [answer]
    simp [hu, hm]
  have ended : s.overlayEnded op level = (s.overlayFreed.answerOverlay op level).orphanCheck := by
    obtain ⟨_, _, check⟩ := State.orphanCheck_frame (s.overlayFreed.answerOverlay op level)
    refine if_neg ?_
    rw [check]
    simp [running]
  rw [ended, State.OverlayAnswered, ← answer]
  exact State.orphansChecked_orphanCheck running

end Answer

/-! ## A granted OPEN (R116) -/

/-- Writes to different places: each place holds what was written to it. -/
theorem storeGet_setAll_inj {β : Type} [DecidableEq β] (d : β) {keys : List Nat} {place : Nat → Nat}
    (inj : ∀ i ∈ keys, ∀ j ∈ keys, place i = place j → i = j) (g : Nat → β) (m : Store β) {k : Nat}
    (hk : k ∈ keys) :
    storeGet d (storeSetAll d m (keys.map (fun i => (place i, g i)))) (place k) = g k := by
  induction keys generalizing m with
  | nil => cases hk
  | cons i keys ih =>
    rw [List.map_cons, storeSetAll_cons]
    by_cases later : k ∈ keys
    · exact ih (fun i hi j hj => inj i (List.mem_cons_of_mem _ hi) j (List.mem_cons_of_mem _ hj)) _ later
    · obtain rfl : k = i := (List.mem_cons.1 hk).resolve_right later
      rw [storeGet_setAll_other, storeGet_set_same]
      intro e he same
      obtain ⟨j, hj, rfl⟩ := List.mem_map.1 he
      exact later (inj j (List.mem_cons_of_mem _ hj) k hk same ▸ hj)

theorem cellKey_div (row : Nat) {col : Nat} (h : col < 128) : cellKey row col / 128 = row := by
  unfold cellKey
  omega

theorem cellKey_mod (row : Nat) {col : Nat} (h : col < 128) : cellKey row col % 128 = col := by
  unfold cellKey
  omega

/-- The cells of a level that does not reach beyond the screen's last column lie in its rectangle. -/
theorem Level.contains_of_mem_cells {lv : Level} (hw : lv.left + lv.width ≤ 128) {i : Nat} (h : i ∈ lv.cells) :
    lv.contains i := by
  obtain ⟨y, x, hy, hx, rfl⟩ := (lv.mem_cells i).1 h
  rw [Level.contains, cellKey_div _ (by omega), cellKey_mod _ (by omega)]
  omega

/-- The save records of a level's cells run row-major from its offset (R113). -/
theorem Level.recordOf_cellKey {lv : Level} (hw : lv.left + lv.width ≤ 128) {x : Nat} (hx : x < lv.width) (y : Nat) :
    lv.recordOf (cellKey (lv.top + y) (lv.left + x)) = lv.offset + y * lv.width + x := by
  rw [Level.recordOf, cellKey_div _ (by omega), cellKey_mod _ (by omega), Nat.add_sub_cancel_left,
    Nat.add_sub_cancel_left]

/-- What an OPEN draws at a row and column of its rectangle (R116 step 4). -/
theorem Level.fillCell_cellKey {lv : Level} (hw : lv.left + lv.width ≤ 128) {x : Nat} (hx : x < lv.width) (y : Nat) :
    lv.fillCell (cellKey (lv.top + y) (lv.left + x)) =
      { glyph := lv.fillGlyph y x, fg := lv.fillFg, bg := lv.fillBg, attrs := attrsClear } := by
  rw [Level.fillCell, cellKey_div _ (by omega), cellKey_mod _ (by omega), Nat.add_sub_cancel_left,
    Nat.add_sub_cancel_left]

theorem Level.fillGlyph_plain {lv : Level} (hb : lv.border = false) (y x : Nat) : lv.fillGlyph y x = 32 := by
  simp [Level.fillGlyph, hb]

/-- The glyphs of a border, whose opposite sides lie apart, and of what lies within it (R116 step 4). -/
theorem Level.fillGlyph_bordered {lv : Level} (hb : lv.border = true) (hh : 3 ≤ lv.height) (hw : 3 ≤ lv.width)
    (y x : Nat) :
    (y = 0 → x = 0 → lv.fillGlyph y x = 256) ∧
    (y = 0 → x = lv.width - 1 → lv.fillGlyph y x = 257) ∧
    (y = lv.height - 1 → x = 0 → lv.fillGlyph y x = 258) ∧
    (y = lv.height - 1 → x = lv.width - 1 → lv.fillGlyph y x = 259) ∧
    (y = 0 ∨ y = lv.height - 1 → 0 < x → x < lv.width - 1 → lv.fillGlyph y x = 260) ∧
    (x = 0 ∨ x = lv.width - 1 → 0 < y → y < lv.height - 1 → lv.fillGlyph y x = 261) ∧
    (0 < y → y < lv.height - 1 → 0 < x → x < lv.width - 1 → lv.fillGlyph y x = 32) := by
  have bottom : y + 1 = lv.height ↔ y = lv.height - 1 := by omega
  have right : x + 1 = lv.width ↔ x = lv.width - 1 := by omega
  simp only [Level.fillGlyph, hb, bottom, right]
  refine ⟨?_, ?_, ?_, ?_, ?_, ?_, ?_⟩ <;> grind

theorem OpenOp.mem_level_cells (op : OpenOp) (requester used : Nat) {y x : Nat} (hy : y < op.height)
    (hx : x < op.width) : cellKey (op.top + y) (op.left + x) ∈ (op.level requester used).cells :=
  (Level.mem_cells _ _).2 ⟨y, x, hy, hx, rfl⟩

section Granted

variable (s : State) (op : OpenOp) (requester : Nat)

theorem State.cell_applyOpen (i : Nat) : (s.applyOpen op requester).cell i =
    if i ∈ (op.level requester s.overlay.used).cells then (op.level requester s.overlay.used).fillCell i
    else s.cell i := storeGet_setAll_map _ _ _ _ _

theorem State.coverOf_applyOpen (i : Nat) : (s.applyOpen op requester).coverOf i =
    if i ∈ (op.level requester s.overlay.used).cells ∧ s.coverOf i = 0 then s.overlay.levels.length + 1
    else s.coverOf i := by
  refine (storeGet_setAll_map 0 _ (fun _ => s.overlay.levels.length + 1) _ _).trans ?_
  simp only [List.mem_filter, decide_eq_true_eq]
  rfl

/-- Every cell of the rectangle is saved in the new level's record for it (R116 step 2). -/
theorem State.saved_applyOpen_recordOf (hw : op.left + op.width ≤ 128) {i : Nat}
    (hi : i ∈ (op.level requester s.overlay.used).cells) :
    (s.applyOpen op requester).saved ((op.level requester s.overlay.used).recordOf i) = s.cell i :=
  storeGet_setAll_inj _ (fun _ hi _ hj => Level.recordOf_inj (Level.contains_of_mem_cells hw hi)
    (Level.contains_of_mem_cells hw hj)) _ _ hi

/-- The cell at row `y` and column `x` of the rectangle, saved row-major (R116 step 2). -/
theorem State.saved_applyOpen (hw : op.left + op.width ≤ 128) {y x : Nat} (hy : y < op.height) (hx : x < op.width) :
    (s.applyOpen op requester).saved (s.overlay.used + y * op.width + x) =
      s.cell (cellKey (op.top + y) (op.left + x)) := by
  have record : (op.level requester s.overlay.used).recordOf (cellKey (op.top + y) (op.left + x)) =
      s.overlay.used + y * op.width + x := Level.recordOf_cellKey hw hx y
  rw [← record]
  exact s.saved_applyOpen_recordOf op requester hw (op.mem_level_cells _ _ hy hx)

/-- The cell drawn at row `y` and column `x` of the rectangle (R116 step 4). -/
theorem State.cell_applyOpen_inside (hw : op.left + op.width ≤ 128) {y x : Nat} (hy : y < op.height)
    (hx : x < op.width) : (s.applyOpen op requester).cell (cellKey (op.top + y) (op.left + x)) =
      { glyph := (op.level requester s.overlay.used).fillGlyph y x, fg := op.fg, bg := op.bg, attrs := attrsClear } :=
  (s.cell_applyOpen op requester _).trans ((if_pos (op.mem_level_cells _ _ hy hx)).trans
    (Level.fillCell_cellKey (lv := op.level requester s.overlay.used) hw hx y))

/-- The cover level of the cell at row `y` and column `x` of the rectangle (R116 step 3). -/
theorem State.coverOf_applyOpen_inside {y x : Nat} (hy : y < op.height) (hx : x < op.width) :
    (s.applyOpen op requester).coverOf (cellKey (op.top + y) (op.left + x)) =
      if s.coverOf (cellKey (op.top + y) (op.left + x)) = 0 then s.overlay.levels.length + 1
      else s.coverOf (cellKey (op.top + y) (op.left + x)) := by
  simp only [State.coverOf_applyOpen, op.mem_level_cells requester s.overlay.used hy hx, true_and]

/-- The records of the levels beneath stay (R116 step 2). -/
theorem State.saved_applyOpen_below {j : Nat} (hj : j < s.overlay.used) :
    (s.applyOpen op requester).saved j = s.saved j := by
  refine storeGet_setAll_other _ _ _ _ fun e he => ?_
  obtain ⟨i, -, rfl⟩ := List.mem_map.1 he
  have above : s.overlay.used ≤ (op.level requester s.overlay.used).recordOf i := by
    rw [Level.recordOf, Nat.add_assoc]
    exact Nat.le_add_right _ _
  exact (Nat.lt_of_lt_of_le hj above).ne'

/-- OPEN_UNIT at the end of its unit. -/
theorem exec_openUnit (hp : s.port.holder = some .overlay)
    (hr : s.overlay.request = some (.openLevel op requester)) : exec .openUnit s =
      .next (((s.applyOpen op requester).scanned s).overlayEnded 1 (s.overlay.levels.length + 1)) := by
  simp [exec, execOpenUnit, goOn, State.endOpen, hp, hr]

end Granted

theorem OpenOp.level_border (op : OpenOp) (h : op.InRange) (requester used : Nat) :
    (op.level requester used).border = decide (op.flags = 1) := by
  obtain ⟨-, -, -, -, -, -, -, -, flags⟩ := h
  rcases flags with flags | ⟨flags, -⟩ <;> simp [OpenOp.level, flags]

/-! ## The obligation -/

/-- Settles O37: the cells, cover levels and save records that the unit leaves are those of `State.applyOpen`, the end
of the unit keeps them (`State.overlayEnded_sameScreen`), and while RUNNING it answers the frame in hand
(`State.overlayAnswered_overlayEnded`). -/
theorem openApplied : Obligations.OpenApplied := by
  unfold Obligations.OpenApplied
  intro s op requester law hp hr
  have range : op.InRange := State.inRange_of_openTest (law.inHand op requester hr)
  have border := op.level_border range requester s.overlay.used
  obtain ⟨-, -, -, -, -, -, -, wide, flags⟩ := range
  have same := State.overlayEnded_sameScreen ((s.applyOpen op requester).scanned s) 1 (s.overlay.levels.length + 1)
  refine ⟨_, exec_openUnit s op requester hp hr, (s.scansOn_scanned _).sameScreen same, ?levels, same.used,
    by rw [same.store]; rfl, same.stamp, fun y x i hy hx hi => ?inside, fun i hi => ?outside,
    fun j hj => (same.saved j).trans (s.saved_applyOpen_below op requester hj), fun sender seq hm hh => ?answer⟩
  case levels =>
    rw [same.levels, ← border]
    rfl
  case inside =>
    subst hi
    refine ⟨(same.saved _).trans (s.saved_applyOpen op requester wide hy hx),
      (same.coverOf _).trans (s.coverOf_applyOpen_inside op requester hy hx), ?_⟩
    rw [(same.cell _).trans (s.cell_applyOpen_inside op requester wide hy hx)]
    refine ⟨rfl, rfl, rfl, fun plain => Level.fillGlyph_plain (by rw [border, plain]; rfl) y x, fun bordered => ?_⟩
    obtain ⟨-, hh, hw⟩ := flags.resolve_left (by rw [bordered]; decide)
    exact Level.fillGlyph_bordered (by rw [border, bordered]; rfl) hh hw y x
  case outside =>
    have out : i ∉ (op.level requester s.overlay.used).cells := fun mem => by
      obtain ⟨y, x, hy, hx, e⟩ := (Level.mem_cells _ i).1 mem
      exact hi y x hy hx e
    exact ⟨(same.cell i).trans ((s.cell_applyOpen op requester i).trans (if_neg out)),
      (same.coverOf i).trans ((s.coverOf_applyOpen op requester i).trans (if_neg fun h => out h.1))⟩
  case answer =>
    refine ⟨_, ?_, State.overlayAnswered_overlayEnded (s := (s.applyOpen op requester).scanned s) hm hh 1 _ rfl⟩
    rw [same.store, same.overlay]
    rfl

end Sys2Proof.Machine
end

section
/-!
PROOFS. The crawl engine and the group timer: the payloads of CRAWL and BEACON frames, when the crawl row needs a
repaint (R141), the placement of a CRAWL frame's glyphs (R137), and the adoption of a BEACON (R133, R140).
-/
namespace Sys2Proof.Machine

/-! ## The payloads (11.2) -/

/-- Two bit vectors in a row are the high and the low bits of what they make. -/
theorem append_eq_iff_extractLsb' {m n : Nat} (hi : BitVec m) (lo : BitVec n) (w : BitVec (m + n)) :
    hi ++ lo = w ↔ hi = w.extractLsb' n m ∧ lo = w.extractLsb' 0 n := by
  constructor
  · rintro rfl
    exact ⟨BitVec.extractLsb'_append_eq_left.symm, BitVec.extractLsb'_append_eq_right.symm⟩
  · rintro ⟨rfl, rfl⟩
    exact BitVec.extractLsb'_append_extractLsb'

/-- Two bytes are those of the value they spell. -/
theorem be16_eq_iff (hi lo : Byte) (w : BitVec 16) :
    be16 hi lo = w ↔ hi = w.extractLsb' 8 8 ∧ lo = w.extractLsb' 0 8 := append_eq_iff_extractLsb' hi lo w

/-- A colours byte is its two colours. -/
theorem colours_eq_iff (b : Byte) (fg bg : Colour) : fgOf b = fg ∧ bgOf b = bg ↔ b = fg ++ bg := by
  rw [eq_comm (a := b), append_eq_iff_extractLsb' fg bg b, eq_comm (a := fg), eq_comm (a := bg)]
  rfl

theorem attrsOfByte_attrsByte (a : Attrs) : attrsOfByte (attrsByte a) = a := by
  rcases a with ⟨_ | _, _ | _, _ | _, _ | _⟩ <;> rfl

theorem attrsByte_lt (a : Attrs) : (attrsByte a).toNat < 16 := by
  rcases a with ⟨_ | _, _ | _, _ | _, _ | _⟩ <;> decide

theorem attrsByte_attrsOfByte : ∀ b : Byte, b.toNat < 16 → attrsByte (attrsOfByte b) = b := by decide

/-- An attributes byte without unassigned bits is its attributes (R160). -/
theorem attrs_eq_iff (b : Byte) (a : Attrs) : b.toNat < 16 ∧ attrsOfByte b = a ↔ b = attrsByte a := by
  constructor
  · rintro ⟨low, rfl⟩
    exact (attrsByte_attrsOfByte b low).symm
  · rintro rfl
    exact ⟨attrsByte_lt a, attrsOfByte_attrsByte a⟩

/-- A BEACON payload is read exactly when it is a phase count and a P. -/
theorem parseBeacon_eq_some_iff (payload : List Byte) (phase p : BitVec 16) :
    parseBeacon payload = some (phase, p) ↔ payload = bytes16 phase ++ bytes16 p := by
  unfold parseBeacon
  split
  next => simp [bytes16, be16_eq_iff, and_assoc]
  next other =>
    refine ⟨nofun, fun h => ?_⟩
    exact (other _ _ _ _ h).elim

/-- A CRAWL payload is read exactly when it is a tape index, colours, attributes and at least one glyph. -/
theorem parseCrawl_eq_some_iff (payload : List Byte) (c : CrawlText) : parseCrawl payload = some c ↔
    c.glyphs ≠ [] ∧ payload = bytes16 c.first ++ [c.fg ++ c.bg, attrsByte c.attrs] ++ c.glyphs := by
  obtain ⟨first, fg, bg, attrs, glyphs⟩ := c
  unfold parseCrawl
  split
  next t1 t0 colours a g rest =>
    have read : (if a.toNat < 16 then some (CrawlText.mk (be16 t1 t0) (fgOf colours) (bgOf colours) (attrsOfByte a)
        (g :: rest)) else none) = some ⟨first, fg, bg, attrs, glyphs⟩ ↔
        be16 t1 t0 = first ∧ (fgOf colours = fg ∧ bgOf colours = bg) ∧ (a.toNat < 16 ∧ attrsOfByte a = attrs) ∧
          g :: rest = glyphs := by
      simp only [Option.ite_none_right_eq_some, Option.some.injEq, CrawlText.mk.injEq]
      tauto
    rw [read, be16_eq_iff, colours_eq_iff, attrs_eq_iff]
    simp only [bytes16, List.cons_append, List.nil_append, List.cons.injEq]
    constructor
    · rintro ⟨⟨h1, h0⟩, hc, ha, rfl⟩
      exact ⟨nofun, h1, h0, hc, ha, rfl⟩
    · rintro ⟨-, h1, h0, hc, ha, hg⟩
      exact ⟨⟨h1, h0⟩, hc, ha, hg⟩
  next other =>
    refine ⟨nofun, ?_⟩
    rintro ⟨some_glyph, h⟩
    obtain ⟨g, rest, rfl⟩ := List.exists_cons_of_ne_nil some_glyph
    exact (other _ _ _ _ _ _ h).elim

/-! ## A repaint is needed (R141) -/

@[simp] theorem State.tapeAt_needRepaint (s : State) (k : Nat) : s.needRepaint.tapeAt k = s.tapeAt k := by
  obtain ⟨_, _, _, repaint⟩ := s.needRepaint_frame
  rw [repaint]
  rfl

/-- With the crawl enabled, a RUNNING painter whose crawl row needs a repaint has its request presented. -/
theorem State.request_needRepaint {s : State} (enabled : s.crawlEnabled = true) (hm : s.control.mode = .running) :
    s.needRepaint.crawl.request = true := by
  have ready : ¬ (!s.crawlEnabled || !s.isRunning) = true := by simp [enabled, State.isRunning, hm]
  rw [State.needRepaint, if_neg ready]
  cases waiting : s.crawl.request with
  | false => simp
  | true =>
    rw [if_neg (by simp)]
    split <;> exact waiting

/-- The crawl row needs a repaint, or it needs none (R137, R141). -/
def State.repaintIf (s : State) (b : Bool) : State := if b then s.needRepaint else s

@[simp] theorem State.repaintIf_true (s : State) : s.repaintIf true = s.needRepaint := rfl

@[simp] theorem State.repaintIf_false (s : State) : s.repaintIf false = s := rfl

@[simp] theorem State.tapeAt_repaintIf (s : State) (b : Bool) (k : Nat) :
    (s.repaintIf b).tapeAt k = s.tapeAt k := by
  cases b
  · rfl
  · exact s.tapeAt_needRepaint k

theorem State.repaintIf_frame (s : State) (b : Bool) : ∃ r m h, s.repaintIf b = { s with
    crawl := { s.crawl with request := r, repeatMark := m }, port := h } := by
  cases b
  · exact ⟨s.crawl.request, s.crawl.repeatMark, s.port, rfl⟩
  · exact s.needRepaint_frame

/-! ## Placement (R137) -/

/-- The tape index of glyph `j` of a CRAWL frame. -/
def CrawlText.index (c : CrawlText) (j : Nat) : BitVec 16 := c.first + BitVec.ofNat 16 j

/-- The tape entry of glyph `j` of a CRAWL frame. -/
def CrawlText.entry (c : CrawlText) (j : Nat) (g : Byte) : TapeEntry :=
  { valid := true, index := c.index j, glyph := g, fg := c.fg, bg := c.bg, attrs := c.attrs }

/-- The place of the tape ring of glyph `j` of a CRAWL frame. -/
def CrawlText.ring (c : CrawlText) (j : Nat) : Nat := (c.index j).toNat % 1024

/-- Among 1,024 glyphs in a row no two have the same place of the ring. -/
theorem CrawlText.ring_ne (c : CrawlText) {i j : Nat} (h : i < j) (near : j < i + 1024) : c.ring i ≠ c.ring j := by
  simp only [CrawlText.ring, CrawlText.index, BitVec.toNat_add, BitVec.toNat_ofNat]
  omega

/-- How many of the `n` glyphs of a CRAWL frame from glyph `j` on lie too far from `p` to be stored. -/
def CrawlText.dropped (c : CrawlText) (p : BitVec 16) (j n : Nat) : Nat :=
  ((List.range n).filter fun i => decide (1024 ≤ (c.index (j + i) - p).toNat)).length

@[simp] theorem CrawlText.dropped_zero (c : CrawlText) (p : BitVec 16) (j : Nat) : c.dropped p j 0 = 0 := rfl

theorem CrawlText.dropped_succ (c : CrawlText) (p : BitVec 16) (j n : Nat) : c.dropped p j (n + 1) =
    (if 1024 ≤ (c.index j - p).toNat then 1 else 0) + c.dropped p (j + 1) n := by
  simp only [CrawlText.dropped, ← List.countP_eq_length_filter, List.range_succ_eq_map, List.countP_cons,
    List.countP_map, Function.comp_def, Nat.succ_eq_add_one, ← Nat.add_assoc, Nat.add_right_comm j 1,
    decide_eq_true_eq, Nat.add_zero]
  exact Nat.add_comm _ _

theorem CrawlText.dropped_start (c : CrawlText) (p : BitVec 16) (n : Nat) : c.dropped p 0 n =
    ((List.range n).filter fun j => decide (1024 ≤ (c.first + BitVec.ofNat 16 j - p).toNat)).length := by
  simp only [CrawlText.dropped, CrawlText.index, Nat.zero_add]

/-- Glyph `j` of the frame lies close enough to P to be stored (R137). -/
def State.reachesGlyph (s : State) (c : CrawlText) (j : Nat) : Prop := (c.index j - s.crawl.p).toNat < 1024

section Placement

variable {s : State} {c : CrawlText}

theorem State.placeGlyph_stored {j : Nat} (h : s.reachesGlyph c j) (g : Byte) :
    s.placeGlyph c j g = s.setTape (c.ring j) (c.entry j g) := if_pos h

theorem State.placeGlyph_dropped {j : Nat} (h : ¬ s.reachesGlyph c j) (g : Byte) :
    s.placeGlyph c j g = s.bump 45 1 := if_neg h

@[simp] theorem State.placeGlyph_crawl_p (j : Nat) (g : Byte) : (s.placeGlyph c j g).crawl.p = s.crawl.p := by
  by_cases h : s.reachesGlyph c j
  · rw [State.placeGlyph_stored h, State.setTape_crawl_p]
  · rw [State.placeGlyph_dropped h, State.bump_crawl]

/-- Placing a glyph leaves what is close enough to P as it is. -/
@[simp] theorem State.placeGlyph_reachesGlyph (i j : Nat) (g : Byte) :
    (s.placeGlyph c j g).reachesGlyph c i ↔ s.reachesGlyph c i := by
  rw [State.reachesGlyph, State.placeGlyph_crawl_p, State.reachesGlyph]

/-- A glyph leaves every place of the ring but its own. -/
theorem State.tapeAt_placeGlyph_other {j k : Nat} (g : Byte) (h : s.reachesGlyph c j → c.ring j ≠ k) :
    (s.placeGlyph c j g).tapeAt k = s.tapeAt k := by
  by_cases near : s.reachesGlyph c j
  · rw [State.placeGlyph_stored near, State.tapeAt_setTape, if_neg (h near).symm]
  · rw [State.placeGlyph_dropped near]
    rfl

/-- Glyphs leave every place of the ring where none of them is stored. -/
theorem State.tapeAt_placeFrom_other {j k : Nat} {gs : List Byte}
    (h : ∀ i < gs.length, s.reachesGlyph c (j + i) → c.ring (j + i) ≠ k) :
    (State.placeFrom c j gs s).tapeAt k = s.tapeAt k := by
  induction gs generalizing s j with
  | nil => rfl
  | cons g gs ih =>
    have later : ∀ i < gs.length, (s.placeGlyph c j g).reachesGlyph c (j + 1 + i) → c.ring (j + 1 + i) ≠ k := by
      intro i hi
      rw [State.placeGlyph_reachesGlyph, Nat.add_assoc, Nat.add_comm 1]
      exact h (i + 1) (Nat.succ_lt_succ hi)
    rw [State.placeFrom, ih later]
    exact State.tapeAt_placeGlyph_other g (h 0 (Nat.succ_pos _))

/-- Each of at most 1,024 glyphs that is close enough to P stands in its place of the ring. -/
theorem State.tapeAt_placeFrom_stored {i j : Nat} {g : Byte} {gs : List Byte}
    (hl : gs.length ≤ 1024) (hg : gs[i]? = some g) (near : s.reachesGlyph c (j + i)) :
    (State.placeFrom c j gs s).tapeAt (c.ring (j + i)) = c.entry (j + i) g := by
  induction gs generalizing s i j with
  | nil => cases hg
  | cons g' gs ih =>
    rw [List.length_cons] at hl
    cases i with
    | zero =>
      obtain rfl : g' = g := by simpa using hg
      have later : ∀ i < gs.length, (s.placeGlyph c j g').reachesGlyph c (j + 1 + i) →
          c.ring (j + 1 + i) ≠ c.ring j := fun i hi _ => (c.ring_ne (by omega) (by omega)).symm
      rw [Nat.add_zero] at near ⊢
      rw [State.placeFrom, State.tapeAt_placeFrom_other later, State.placeGlyph_stored near, State.tapeAt_setTape,
        if_pos rfl]
    | succ i =>
      have shift : j + (i + 1) = j + 1 + i := by omega
      rw [shift] at near ⊢
      exact ih (by omega) (by simpa using hg) ((State.placeGlyph_reachesGlyph _ j g').2 near)

/-- Each glyph that is not stored adds 1 to counter 45. -/
theorem State.risesTo_placeFrom {s₀ : State} {l : List (Nat × Nat)} (h : s₀.risesTo s l) (j : Nat) (gs : List Byte) :
    s₀.risesTo (State.placeFrom c j gs s) (l ++ [(45, c.dropped s.crawl.p j gs.length)]) := by
  induction gs generalizing s j l with
  | nil => exact State.risesTo_congr h rfl fun n => by simp
  | cons g gs ih =>
    rw [State.placeFrom, List.length_cons, CrawlText.dropped_succ]
    by_cases near : s.reachesGlyph c j
    · have stored : s₀.risesTo (s.placeGlyph c j g) l := by
        rw [State.placeGlyph_stored near]
        exact State.risesTo_congr h rfl fun _ => rfl
      have rest := ih stored (j + 1)
      rw [State.placeGlyph_crawl_p] at rest
      rwa [if_neg (Nat.not_le.2 near), Nat.zero_add]
    · have counted : s₀.risesTo (s.placeGlyph c j g) (l ++ [(45, 1)]) := by
        rw [State.placeGlyph_dropped near]
        exact State.risesTo_bump h 45 1
      have rest := ih counted (j + 1)
      rw [State.placeGlyph_crawl_p] at rest
      rw [if_pos (Nat.not_lt.1 near)]
      refine State.risesTo_congr rest rfl fun n => ?_
      by_cases hn : 45 = n <;> simp [hn]

/-- Placing a frame, and the repaint it may need, change the tape, the repaint's request and mark, the port and
counters. -/
theorem State.repaintIf_placeFrom_touches (gs : List Byte) (b : Bool) {t : State}
    (h : t = (State.placeFrom c 0 gs s).repaintIf b) : t = { s.withRunning t with
      crawl := { s.crawl with
        tape := t.crawl.tape, request := t.crawl.request, repeatMark := t.crawl.repeatMark }
      port := t.port } := by
  obtain ⟨_, _, placed⟩ := s.placeFrom_frame c 0 gs
  obtain ⟨_, _, _, repaint⟩ := (State.placeFrom c 0 gs s).repaintIf_frame b
  rw [placed] at repaint
  rw [h, placed, repaint]
  rfl

end Placement

/-! ## A CRAWL frame is taken (R136, R137) -/

/-- With no phase tick outstanding the crawl engine has no step to take first (log 9). -/
theorem State.takeTick_of_not_due {s : State} (h : s.crawl.tickDue = false) : s.takeTick = s := by
  simp [State.takeTick, h]

section Crawl

variable {s u : State} {f : RxFrame} {c : CrawlText}

theorem exec_crawl (h : s.reaches f u) (hk : f.kind = kindCrawl) (ht : u.crawl.tickDue = false) :
    exec .crawl s = .next (u.takeCrawl f) := by
  have row := State.dispatch_reaches h (fun f => decide (f.kind = kindCrawl)) (decide_eq_true hk)
    (fun f s1 => s1.takeTick.takeCrawl f)
  rw [State.takeTick_of_not_due ht] at row
  exact congrArg Host.Outcome.next row

theorem State.takeCrawl_unusable (hp : parseCrawl f.payload = none) : s.takeCrawl f = s.bump 36 1 := by
  rw [State.takeCrawl, hp]
  rfl

theorem State.takeCrawl_off (hp : parseCrawl f.payload = some c) (hr : s.control.config.crawlRow = none) :
    s.takeCrawl f = s.bump 36 1 := by
  simp [State.takeCrawl, hp, State.crawlEnabled, hr, State.countUnusable_eq]

/-- With the crawl enabled the glyphs are placed, and one in this monitor's slice calls for a repaint. -/
theorem State.takeCrawl_on (hp : parseCrawl f.payload = some c) (enabled : s.crawlEnabled = true) :
    s.takeCrawl f =
      (State.placeFrom c 0 c.glyphs s).repaintIf ((List.range c.glyphs.length).any (s.inView c)) := by
  simp [State.takeCrawl, State.repaintIf, hp, enabled]

/-- Some glyph of the frame is in view exactly when its distance from P is one that this monitor's slice shows. -/
theorem State.any_inView_iff {seen : Nat → Prop}
    (hseen : ∀ a, seen a ↔ a < 1024 ∧ 128 * s.control.config.tilePosition ≤ a ∧
      a ≤ 128 * s.control.config.tilePosition + 127) (n : Nat) :
    (List.range n).any (s.inView c) = true ↔
      ∃ j, j < n ∧ seen (c.first + BitVec.ofNat 16 j - s.crawl.p).toNat := by
  simp [State.inView, hseen, and_assoc, Nat.mul_comm 128]

end Crawl

/-! ## A BEACON is taken (R132, R133, R140) -/

section Beacon

variable {s u : State} {f : RxFrame} {phase p : BitVec 16}

theorem exec_beacon (h : s.reaches f u) (hk : f.kind = kindBeacon) : exec .beacon s = .next (u.takeBeacon f) :=
  congrArg Host.Outcome.next (State.dispatch_reaches h (fun f => decide (f.kind = kindBeacon)) (decide_eq_true hk)
    (fun f s1 => s1.takeBeacon f))

theorem State.takeBeacon_unusable (hp : parseBeacon f.payload = none) : s.takeBeacon f = s.bump 36 1 := by
  rw [State.takeBeacon, hp]
  rfl

theorem State.takeBeacon_unfollowed (hp : parseBeacon f.payload = some (phase, p))
    (other : s.group.timing ≠ .following ∨ s.group.reference ≠ f.sender) : s.takeBeacon f = s := by
  rw [State.takeBeacon, hp]
  exact if_neg (not_and_or.2 other)

/-- With no BEACON due there is none to send first (log 9). -/
theorem State.sendBeacon_of_not_due (h : s.group.countdown ≠ 0) : s.sendBeacon = s := by
  simp [State.sendBeacon, State.beaconIsDue, h]

theorem State.takeBeacon_followed (hp : parseBeacon f.payload = some (phase, p))
    (following : s.group.timing = .following) (reference : s.group.reference = f.sender)
    (ht : s.crawl.tickDue = false) (hc : s.group.countdown ≠ 0) :
    s.takeBeacon f = (s.adoptPhase phase).adoptP p := by
  simp [State.takeBeacon, hp, following, reference, State.takeTick_of_not_due ht, State.sendBeacon_of_not_due hc]

/-- The phase count becomes the BEACON's, and a difference counts as a correction (R133). -/
theorem State.adoptPhase_eq (s : State) (phase : BitVec 16) : s.adoptPhase phase = { s with
    group := { s.group with
      phase := phase
      corrections := if s.group.phase = phase then s.group.corrections else min 65535 (s.group.corrections + 1) } } := by
  unfold State.adoptPhase
  split
  next same => rw [← same]
  next => rfl

@[simp] theorem State.adoptPhase_crawl (s : State) (phase : BitVec 16) : (s.adoptPhase phase).crawl = s.crawl := by
  rw [State.adoptPhase_eq]

@[simp] theorem State.adoptPhase_port (s : State) (phase : BitVec 16) : (s.adoptPhase phase).port = s.port := by
  rw [State.adoptPhase_eq]

@[simp] theorem State.adoptPhase_control (s : State) (phase : BitVec 16) :
    (s.adoptPhase phase).control = s.control := by
  rw [State.adoptPhase_eq]

@[simp] theorem State.adoptPhase_tapeAt (s : State) (phase : BitVec 16) (k : Nat) :
    (s.adoptPhase phase).tapeAt k = s.tapeAt k := by
  rw [State.tapeAt, State.adoptPhase_crawl, State.tapeAt]

theorem State.adoptP_same (h : s.crawl.p = p) : s.adoptP p = s := if_pos h

/-- A new P takes its validity from every tape entry 1,024 or more from it, and the crawl row needs a repaint (R140). -/
theorem State.adoptP_new (h : s.crawl.p ≠ p) : s.adoptP p = State.needRepaint { s with
    crawl := { s.crawl with p := p, tape := storeMap TapeEntry.cold (TapeEntry.onAdopt p) s.crawl.tape } } :=
  if_neg h

/-- Whatever P was, it becomes the BEACON's, and only the tape and the repaint can change with it. -/
theorem State.adoptP_touches (s : State) (p : BitVec 16) : s.adoptP p = { s with
    crawl := { s.crawl with
      p := p, tape := (s.adoptP p).crawl.tape, request := (s.adoptP p).crawl.request
      repeatMark := (s.adoptP p).crawl.repeatMark }
    port := (s.adoptP p).port } := by
  by_cases h : s.crawl.p = p
  · rw [State.adoptP_same h, ← h]
  · obtain ⟨_, _, _, repaint⟩ := State.needRepaint_frame { s with
      crawl := { s.crawl with p := p, tape := storeMap TapeEntry.cold (TapeEntry.onAdopt p) s.crawl.tape } }
    rw [State.adoptP_new h, repaint]

@[simp] theorem State.adoptP_group (s : State) (p : BitVec 16) : (s.adoptP p).group = s.group := by
  rw [State.adoptP_touches]

theorem State.tapeAt_adoptP_new (wf : storeWf TapeEntry.cold s.crawl.tape = true) (h : s.crawl.p ≠ p) (k : Nat) :
    (s.adoptP p).tapeAt k = (s.tapeAt k).onAdopt p := by
  rw [State.adoptP_new h, State.tapeAt_needRepaint]
  exact storeGet_map _ _ _ _ rfl wf

theorem State.request_adoptP_new (h : s.crawl.p ≠ p) (enabled : s.crawlEnabled = true)
    (hm : s.control.mode = .running) : (s.adoptP p).crawl.request = true := by
  rw [State.adoptP_new h]
  exact State.request_needRepaint enabled hm

end Beacon

/-! ## The obligations -/

/-- Settles O41: the tape and counter 45 are those of the placement (`State.tapeAt_placeFrom_stored`,
`State.tapeAt_placeFrom_other`, `State.risesTo_placeFrom`), to which a repaint adds its request alone. -/
theorem crawlPlaced : Obligations.CrawlPlaced := by
  unfold Obligations.CrawlPlaced
  refine ⟨fun s u f c reached hk hp hl ht counters => ⟨fun off => ?off, fun row on => ?on⟩,
    fun s u f reached hk hp ht => ?unusable, parseCrawl_eq_some_iff⟩
  case off => rw [exec_crawl reached hk ht, State.takeCrawl_off hp off]
  case unusable => rw [exec_crawl reached hk ht, State.takeCrawl_unusable hp]
  case on =>
    have enabled : u.crawlEnabled = true := by simp [State.crawlEnabled, on]
    obtain ⟨_, _, placed⟩ := u.placeFrom_frame c 0 c.glyphs
    generalize hv : (List.range c.glyphs.length).any (u.inView c) = view
    obtain ⟨_, _, _, repaint⟩ := (State.placeFrom c 0 c.glyphs u).repaintIf_frame view
    refine ⟨(State.placeFrom c 0 c.glyphs u).repaintIf view,
      by rw [exec_crawl reached hk ht, State.takeCrawl_on hp enabled, hv],
      State.repaintIf_placeFrom_touches c.glyphs view rfl, fun j g x hg hx near => ?stored, fun k free => ?free,
      ?counted, fun seen hseen => ⟨fun some_seen hm => ?presented, fun none_seen => ?quiet⟩⟩
    case stored =>
      subst hx
      have start : 0 + j = j := Nat.zero_add j
      have entry := State.tapeAt_placeFrom_stored (j := 0) hl hg (start.symm ▸ near)
      rw [start] at entry
      exact (State.tapeAt_repaintIf _ _ _).trans entry
    case free =>
      rw [State.tapeAt_repaintIf]
      refine State.tapeAt_placeFrom_other fun i hi near => ?_
      rw [Nat.zero_add] at near ⊢
      exact free i _ hi rfl near
    case counted =>
      refine State.risesTo_congr (State.risesTo_placeFrom (State.risesTo_refl counters) 0 c.glyphs)
        (by rw [repaint]) fun n => ?_
      rw [CrawlText.dropped_start, List.nil_append]
    case presented =>
      obtain rfl : view = true := hv.symm.trans ((State.any_inView_iff hseen _).2 some_seen)
      rw [State.repaintIf_true]
      exact State.request_needRepaint (by rw [placed]; exact enabled) (by rw [placed]; exact hm)
    case quiet =>
      obtain rfl : view = false := hv.symm.trans (Bool.eq_false_iff.2 fun h => by
        obtain ⟨j, hj, hs⟩ := (State.any_inView_iff hseen _).1 h
        exact none_seen j hj hs)
      rw [State.repaintIf_false, placed]
      exact ⟨rfl, rfl⟩

/-- Settles O42: an adopted BEACON is `State.adoptPhase_eq` and then `State.adoptP_touches`; the tape is that of
`State.tapeAt_adoptP_new`. -/
theorem beaconAdopted : Obligations.BeaconAdopted := by
  unfold Obligations.BeaconAdopted
  refine ⟨fun s u f reached hk canonical => ⟨fun hp => ?unusable, fun phase p hp => ⟨fun other => ?unfollowed,
    fun following reference ht hc => ?followed⟩⟩, parseBeacon_eq_some_iff⟩
  case unusable => rw [exec_beacon reached hk, State.takeBeacon_unusable hp]
  case unfollowed => rw [exec_beacon reached hk, State.takeBeacon_unfollowed hp other]
  case followed =>
    refine ⟨(u.adoptPhase phase).adoptP p,
      by rw [exec_beacon reached hk, State.takeBeacon_followed hp following reference ht hc], ?_⟩
    refine ⟨?touches, fun same => ?uncorrected, fun new => ?corrected, fun same => ?sameP, fun new k => ?tape,
      fun new enabled hm => ?presented⟩
    case touches =>
      rw [State.adoptP_group, State.adoptPhase_eq]
      exact State.adoptP_touches _ p
    case uncorrected => rw [State.adoptP_group, State.adoptPhase_eq, if_pos same]
    case corrected => rw [State.adoptP_group, State.adoptPhase_eq, if_neg new]
    case sameP =>
      rw [State.adoptP_same (by rwa [State.adoptPhase_crawl])]
      exact ⟨u.adoptPhase_crawl phase, u.adoptPhase_port phase⟩
    case tape =>
      rw [State.tapeAt_adoptP_new (by simpa using canonical.tape) (by simpa using new), State.adoptPhase_tapeAt]
      rfl
    case presented =>
      exact State.request_adoptP_new (by simpa using new) (by simpa [State.crawlEnabled] using enabled)
        (by simpa using hm)

end Sys2Proof.Machine
end

section
/-!
PROOFS. What a step can do, said once: every command is a chain of small changes (`State.Change`), each with the guard
under which the model makes it. A law that every small change keeps is kept by every step.
-/
namespace Sys2Proof.Machine

/-! ## What one record may become -/

/-- The counts of a port lie in their ranges (1.6). -/
def Port.Fits (p : Port) : Prop := p.attempts ≤ 7 ∧ p.hold ≤ 3 ∧ (p.tx = .holdGap → p.hold < 3)

/-- What a frame, a taken event or a reset may make of a peer entry (2.1, R22 to R27, R31). -/
structure PeerEntry.Becomes (e e' : PeerEntry) : Prop where
  ages : e.ageA ≤ 255 ∧ e.ageB ≤ 255 → e'.ageA ≤ 255 ∧ e'.ageB ≤ 255
  beacon : e.beaconAge ≤ 65535 → e'.beaconAge ≤ 65535
  silence : e'.silenceAge = 0 ∨ e'.silenceAge = e.silenceAge ∧ (e'.state = .live → e.state = .live)
  window : (e.state ≠ .unheard → e.marks 0 = true) → e'.state ≠ .unheard → e'.marks 0 = true

/-- What anything but a LAYOUT operation may make of a slot: its laws, its binding and its place are kept, and its
highlight runs no longer than before or than the configuration gives (R83, R93). -/
structure Slot.Becomes (c : Configuration) (r r' : Slot) : Prop where
  sound : r.Sound → r'.Sound
  bound : r'.bound = r.bound
  place : r'.place = r.place
  highlight : r'.highlight.remaining ≤ r.highlight.remaining ∨ r'.highlight.remaining ≤ c.hold ∨
    r'.highlight.remaining ≤ c.fade

/-! ## The small changes -/

/-- One small change of the painter, with what the model has tested when it makes it. -/
inductive State.Change (s : State) : State → Prop
  /-- Registers that no law of this file speaks of. -/
  | registers (hand : Hand) (text : Option TextUnit) (paint : Option PaintOp) (stamp : BitVec 32) (port : Arbiter)
      (blank frameBlank : Bool) (sampled : BitVec 16) (request mark tick byPower clash : Bool) (cause : Cause)
      (draws : Nat) : State.Change s { s with
        hand := hand, text := text, paint := paint, fields := { s.fields with stamp := stamp }, port := port
        scan := { s.scan with blank := blank, frameBlank := frameBlank, sampled := sampled }
        crawl := { s.crawl with request := request, repeatMark := mark, tickDue := tick }
        control := { s.control with heldByPower := byPower, clash := clash, cause := cause }
        freeCount := draws }
  /-- The reading of the display frame (R109). -/
  | reading (frame : Store Cell) (n : Nat)
      (hf : storeWf cellBlank s.scan.frame = true → storeWf cellBlank frame = true)
      (hn : s.scan.read ≤ 6144 → n ≤ 6144) :
      State.Change s { s with scan := { s.scan with frame := frame, read := n } }
  | ports (a b : Port) (ha : s.portA.Fits → a.Fits) (hb : s.portB.Fits → b.Fits) :
      State.Change s { s with portA := a, portB := b }
  | frameQueue (q : List RxFrame) (h : s.frameQueue.length ≤ 8 → q.length ≤ 8) :
      State.Change s { s with frameQueue := q }
  | transmitQueue (q : TxQueue) (hf : s.tx.frames.length ≤ 4 → q.frames.length ≤ 4)
      (hq : s.tx.queued ≤ 32 → q.queued ≤ 32) : State.Change s { s with tx := q }
  | peer (p : Nat) (e : PeerEntry) (hm : s.control.mode = .running) (h : (s.peer p).Becomes e) :
      State.Change s (s.setPeer p e)
  | agePeers (hm : s.control.mode = .running) : State.Change s s.agePeers
  | slots (m : Store Slot) (hw : storeWf Slot.cold s.fields.slots = true → storeWf Slot.cold m = true)
      (h : storeWf Slot.cold s.fields.slots = true →
        ∀ n, (s.slot n).Becomes s.control.config (storeGet Slot.cold m n)) :
      State.Change s { s with fields := { s.fields with slots := m } }
  /-- The slot and the owner map after a BIND that passes its tests (R43). -/
  | bind (op : BindOp) (kind : FormatKind) (rule : ColourRule) (h : s.bindTest op = .done)
      (hr : bindRange op = some (kind, rule)) :
      State.Change s ((s.setSlot op.slot (boundSlot (s.slot op.slot) op kind rule)).markOwner op.place.cells
        (.slot op.slot))
  /-- The owner map and the slot after the UNBIND of a BOUND slot (R45). -/
  | unbind (n : Nat) (h : (s.slot n).bound = true) :
      State.Change s ((s.markOwner (s.slot n).place.cells .none).setSlot n (freedSlot (s.slot n)))
  /-- Writes to the cell store and to save records (R103). -/
  | cells (cells save : Store Cell) (hc : storeWf cellBlank s.store.cells = true → storeWf cellBlank cells = true)
      (hs : storeWf cellBlank s.overlay.save = true → storeWf cellBlank save = true) :
      State.Change s { s with
        store := { s.store with cells := cells }, overlay := { s.overlay with save := save } }
  | request (r : Option OverlayRequest)
      (h : ∀ op requester, r = some (.openLevel op requester) →
        r = s.overlay.request ∨ s.openTest op = .done) :
      State.Change s { s with overlay := { s.overlay with request := r } }
  /-- A granted OPEN, its request gone (R116). -/
  | openLevel (op : OpenOp) (requester : Nat) (h : s.overlay.request = some (.openLevel op requester)) :
      State.Change s { s.applyOpen op requester with
        overlay := { (s.applyOpen op requester).overlay with request := none } }
  | closeTop (h : ∀ op requester, s.overlay.request ≠ some (.openLevel op requester)) : State.Change s s.closeTop
  | elect (hm : s.control.mode = .running) : State.Change s s.elect
  | timer (phase : BitVec 16) (corrections countdown : Nat)
      (hk : s.group.corrections ≤ 65535 → corrections ≤ 65535)
      (hc : s.control.config.interval ≤ 255 → s.group.countdown ≤ 255 → countdown ≤ 255) :
      State.Change s { s with
        group := { s.group with phase := phase, corrections := corrections, countdown := countdown } }
  /-- A tape entry stored at its place within reach of P (R137). -/
  | place (k : Nat) (e : TapeEntry) (hk : e.index.toNat % 1024 = k) (hd : (e.index - s.crawl.p).toNat < 1024) :
      State.Change s (s.setTape k e)
  /-- P moves on by one, the entry at P made invalid (R138). -/
  | advance (k : Nat) (hk : k = s.crawl.p.toNat % 1024) :
      State.Change s { s with crawl := { s.crawl with
        p := s.crawl.p + 1
        tape := storeSet TapeEntry.cold s.crawl.tape k { s.tapeAt k with valid := false } } }
  | adopt (p : BitVec 16) : State.Change s { s with crawl := { s.crawl with
      p := p, tape := storeMap TapeEntry.cold (TapeEntry.onAdopt p) s.crawl.tape } }
  | count (n a : Nat) : State.Change s (s.bump n a)
  | capture : State.Change s s.captureBanks
  | backup : State.Change s { s with control := { s.control with clock := .backup } }
  | held : State.Change s { s with control := { s.control with mode := .held } }
  /-- The values of a cold reset that laws speak of (R19, R126, R148, R153). -/
  | cold (cause : Option Cause) (hm : s.control.mode = .held) : State.Change s { s with
      peers := []
      group := { phase := 0, timing := .free, reference := 63, corrections := 0, countdown := 0 }
      control := { s.control with
        config := { s.control.config with station := 63 }
        valid := false, clamped := 0, running := [], snapshot := [], coldCause := cause } }
  | loading (cause : Cause) (clock : Clock) (h : s.control.coldCause ≠ none) : State.Change s { s with
      control := { s.control with mode := .loading, coldCause := some cause, clock := clock } }
  /-- The image is put in force and CLEARING sets its values (R153, R155). -/
  | clearing (image : List Byte) (hm : s.control.mode = .loading) : State.Change s
      { (s.validate image).clearAll with
        control := { (s.validate image).clearAll.control with mode := .clearing } }
  /-- The values of a warm reset that laws speak of (R19, R126, R154). -/
  | unwinding (clock : Clock) : State.Change s { s with
      peers := []
      group := { s.group with timing := .free, reference := 63, countdown := 0 }
      control := { s.control with mode := .unwinding, clock := clock } }
  /-- RUNNING is entered and the election runs (R131, R153, R154). -/
  | run : State.Change s (State.elect { s with
      control := { s.control with mode := .running, coldCause := none }
      group := { s.group with countdown := s.control.config.interval } })

/-- A chain of small changes. -/
def State.Changes : State → State → Prop := Relation.ReflTransGen State.Change

variable {s t u : State}

theorem State.Changes.refl (s : State) : s.Changes s := Relation.ReflTransGen.refl

theorem State.Changes.trans (h : s.Changes t) (h' : t.Changes u) : s.Changes u := Relation.ReflTransGen.trans h h'

theorem State.Change.once (h : s.Change t) : s.Changes t := Relation.ReflTransGen.single h

theorem State.Changes.then (h : s.Changes t) (h' : t.Change u) : s.Changes u := Relation.ReflTransGen.tail h h'

/-- What every small change keeps, a chain keeps. -/
theorem State.Changes.keep {P : State → Prop} (keep : ∀ s t : State, P s → s.Change t → P t) (h : s.Changes t)
    (hs : P s) : P t := by
  induction h with
  | refl => exact hs
  | tail _ change ih => exact keep _ _ ih change

/-! ## Peers and slots -/

theorem PeerEntry.Becomes.refl (e : PeerEntry) : e.Becomes e := ⟨id, id, .inr ⟨rfl, id⟩, id⟩

theorem Slot.Becomes.refl (c : Configuration) (r : Slot) : r.Becomes c r := ⟨id, rfl, rfl, .inl le_rfl⟩

theorem State.setSlot_changes {n : Nat} {r : Slot} (h : (s.slot n).Becomes s.control.config r) :
    s.Changes (s.setSlot n r) := by
  refine State.Change.once (.slots _ (storeSet_wf _ _ _ _) fun _ m => ?_)
  rw [storeGet_set]
  split
  · next e => exact e ▸ h
  · exact .refl _ _

theorem State.mapSlots_changes {f : Slot → Slot} (hf : f Slot.cold = Slot.cold)
    (h : ∀ r, Slot.Becomes s.control.config r (f r)) : s.Changes (s.mapSlots f) := by
  refine State.Change.once (.slots _ (storeMap_wf _ _ _) fun hw m => ?_)
  rw [storeGet_map _ _ _ _ hf hw]
  exact h _

/-! ### What each event makes of a slot -/

theorem Slot.becomes_unmarked (c : Configuration) (r : Slot) : r.Becomes c { r with restyle := false } where
  sound h := ⟨fun hb => by obtain ⟨h1, h2, h3, h4, h5, h6, -⟩ := h.free hb; exact ⟨h1, h2, h3, h4, h5, h6, rfl⟩,
    h.place, h.unshown, h.stale, h.rest⟩
  bound := rfl
  place := rfl
  highlight := .inl le_rfl

theorem Slot.becomes_priority (c : Configuration) (r : Slot) (prio : Nat) :
    r.Becomes c { r with priority := prio } where
  sound h := ⟨h.free, h.place, h.unshown, h.stale, h.rest⟩
  bound := rfl
  place := rfl
  highlight := .inl le_rfl

theorem Slot.becomes_unpending (c : Configuration) (r : Slot) : r.Becomes c { r with pending := none } where
  sound h := ⟨fun hb => ⟨rfl, (h.free hb).2⟩, h.place, h.unshown, h.stale, h.rest⟩
  bound := rfl
  place := rfl
  highlight := .inl le_rfl

/-- Only a BOUND slot takes a value (R50). -/
theorem Slot.becomes_pending (c : Configuration) {r : Slot} (hb : r.bound = true) (p : Option Pending) :
    r.Becomes c { r with pending := p } where
  sound h := ⟨fun h' => by simp [hb] at h', h.place, h.unshown, h.stale, h.rest⟩
  bound := rfl
  place := rfl
  highlight := .inl le_rfl

theorem Slot.becomes_painted (c : Configuration) {r : Slot} (hb : r.bound = true) (v : Value) (src : Nat)
    (live : Bool) : r.Becomes c (paintedSlot r v src live c.hold) where
  sound h := by
    refine ⟨fun h' => by simp [paintedSlot, hb] at h', h.place, fun h' => by simp [paintedSlot] at h',
      fun h' => ?_, fun h' => ?_⟩
    · have : live = false := by simpa [paintedSlot] using h'
      simp [paintedSlot, paintedHighlight, this]
    · revert h'
      simp only [paintedSlot, paintedHighlight]
      split
      · exact fun _ => rfl
      · split
        · intro h'; cases h'
        · exact h.rest
  bound := rfl
  place := rfl
  highlight := by
    simp only [paintedSlot, paintedHighlight]
    split
    · exact .inl (Nat.zero_le _)
    · split
      · exact .inr (.inl le_rfl)
      · exact .inl le_rfl

/-- A highlight that is to move on is that of a BOUND slot without the stale mark. -/
theorem Slot.Sound.of_highlight {r : Slot} (h : r.Sound) (hs : r.highlight.stage ≠ .none) :
    r.bound = true ∧ r.stale = false := by
  constructor
  · cases hb : r.bound
    · exact absurd (h.free hb).2.2.2.1 hs
    · rfl
  · cases ht : r.stale
    · rfl
    · exact absurd (h.stale ht) hs

theorem Highlight.move_remaining (fade : Nat) (h : Highlight) :
    (h.move fade).remaining ≤ fade ∧ ((h.move fade).stage = .none → (h.move fade).remaining = 0) := by
  unfold Highlight.move
  (repeat' split) <;> simp

theorem Slot.becomes_moved (c : Configuration) {r : Slot} (hs : r.highlight.stage ≠ .none) :
    r.Becomes c { r with highlight := r.highlight.move c.fade, restyle := true } where
  sound h := by
    obtain ⟨hb, ht⟩ := h.of_highlight hs
    exact ⟨fun h' => by simp [hb] at h', h.place, h.unshown, fun h' => by simp [ht] at h',
      (Highlight.move_remaining _ _).2⟩
  bound := rfl
  place := rfl
  highlight := .inr (.inr (Highlight.move_remaining _ _).1)

theorem Slot.bound_of_shows {r : Slot} {p : Nat} (h : r.shows p = true) :
    r.bound = true ∧ ∃ v, r.shown = some v ∧ v.source = p := by
  unfold Slot.shows at h
  rw [Bool.and_eq_true] at h
  obtain ⟨hb, h⟩ := h
  cases hs : r.shown with
  | none => simp [hs] at h
  | some v => exact ⟨hb, v, rfl, by simpa [hs] using h⟩

theorem Slot.becomes_onSilence (c : Configuration) (p : Nat) (r : Slot) : r.Becomes c (r.onSilence p) := by
  unfold Slot.onSilence
  split
  · next hs =>
    obtain ⟨hb, v, hv, -⟩ := Slot.bound_of_shows hs
    exact ⟨fun h => ⟨fun h' => by simp [hb] at h', h.place, fun h' => by simp [hv] at h', fun _ => rfl, fun _ => rfl⟩,
      rfl, rfl, .inl (Nat.zero_le _)⟩
  · exact .refl _ _

theorem Slot.becomes_onReturn (c : Configuration) (p : Nat) (r : Slot) : r.Becomes c (r.onReturn p) := by
  unfold Slot.onReturn
  split
  · next hs =>
    obtain ⟨hb, v, hv, -⟩ := Slot.bound_of_shows hs
    exact ⟨fun h => ⟨fun h' => by simp [hb] at h', h.place, fun _ => rfl, fun h' => by simp at h', h.rest⟩,
      rfl, rfl, .inl le_rfl⟩
  · exact .refl _ _

theorem Slot.becomes_onWarmReset (c : Configuration) (r : Slot) : r.Becomes c r.onWarmReset where
  sound h := by
    refine ⟨fun hb => ?_, h.place, fun hv => ?_, fun _ => rfl, fun _ => rfl⟩
    · have hb : r.bound = false := hb
      obtain ⟨-, h2, h3, -, h5, h6, -⟩ := h.free hb
      exact ⟨rfl, h2, h3, rfl, by simp [Slot.onWarmReset, hb, h5], h6, by simp [Slot.onWarmReset, hb]⟩
    · have hv : r.shown = none := hv
      simp [Slot.onWarmReset, hv, h.unshown hv]
  bound := rfl
  place := rfl
  highlight := .inl (Nat.zero_le _)

theorem Slot.becomes_aged (c : Configuration) (r : Slot) : r.Becomes c r.ageHighlight where
  sound h := by
    unfold Slot.ageHighlight Highlight.age
    split
    · exact h
    · next hs =>
      exact ⟨h.free, h.place, h.unshown, h.stale, fun h' => absurd h' hs⟩
  bound := rfl
  place := rfl
  highlight := by
    left
    simp only [Slot.ageHighlight, Highlight.age]
    split
    · exact le_rfl
    · exact Nat.sub_le _ _

end Sys2Proof.Machine
end

section
/-!
PROOFS. Every shared operation of the model is a chain of small changes.
-/
namespace Sys2Proof.Machine

variable (s : State)

/-! ## The write port (R101) -/

theorem State.port_changes (p : Arbiter) : s.Changes { s with port := p } :=
  State.Change.once (.registers s.hand s.text s.paint s.fields.stamp p s.scan.blank s.scan.frameBlank s.scan.sampled
    s.crawl.request s.crawl.repeatMark s.crawl.tickDue s.control.heldByPower s.control.clash s.control.cause s.freeCount)

theorem State.paintRegister_changes (o : Option PaintOp) : s.Changes { s with paint := o } :=
  State.Change.once (.registers s.hand s.text o s.fields.stamp s.port s.scan.blank s.scan.frameBlank s.scan.sampled
    s.crawl.request s.crawl.repeatMark s.crawl.tickDue s.control.heldByPower s.control.clash s.control.cause s.freeCount)

theorem State.textRegister_changes (o : Option TextUnit) : s.Changes { s with text := o } :=
  State.Change.once (.registers s.hand o s.paint s.fields.stamp s.port s.scan.blank s.scan.frameBlank s.scan.sampled
    s.crawl.request s.crawl.repeatMark s.crawl.tickDue s.control.heldByPower s.control.clash s.control.cause s.freeCount)

theorem State.hand_changes (h : Hand) : s.Changes { s with hand := h } :=
  State.Change.once (.registers h s.text s.paint s.fields.stamp s.port s.scan.blank s.scan.frameBlank s.scan.sampled
    s.crawl.request s.crawl.repeatMark s.crawl.tickDue s.control.heldByPower s.control.clash s.control.cause s.freeCount)

theorem State.draw_changes (n : Nat) : s.Changes { s with freeCount := n } :=
  State.Change.once (.registers s.hand s.text s.paint s.fields.stamp s.port s.scan.blank s.scan.frameBlank s.scan.sampled
    s.crawl.request s.crawl.repeatMark s.crawl.tickDue s.control.heldByPower s.control.clash s.control.cause n)

theorem State.crawlMarks_changes (request mark tick : Bool) :
    s.Changes { s with crawl := { s.crawl with request := request, repeatMark := mark, tickDue := tick } } :=
  State.Change.once (.registers s.hand s.text s.paint s.fields.stamp s.port s.scan.blank s.scan.frameBlank s.scan.sampled
    request mark tick s.control.heldByPower s.control.clash s.control.cause s.freeCount)

theorem State.request_changes {r : Option OverlayRequest}
    (h : ∀ op requester, r = some (.openLevel op requester) → r = s.overlay.request ∨ s.openTest op = .done) :
    s.Changes { s with overlay := { s.overlay with request := r } } :=
  State.Change.once (.request r h)

theorem State.passesChecks_bound {n : Nat} {g : BitVec 8} (h : s.passesChecks n g = true) :
    (s.slot n).bound = true := by
  simp only [State.passesChecks, Bool.and_eq_true] at h
  exact h.1

theorem State.grantPaint_changes : s.Changes s.grantPaint := by
  unfold State.grantPaint
  split
  · dsimp only
    split
    · next hp =>
      exact (State.setSlot_changes (Slot.becomes_painted _ (s.passesChecks_bound hp) _ _ _)).trans
        (State.port_changes _ _)
    · exact s.port_changes _
  · exact s.port_changes _
  · exact .refl _

theorem State.grant_changes (w : Writer) : s.Changes (s.grant w) := by
  by_cases hw : w = .paint
  · subst hw
    exact (s.port_changes { s.port with holder := some .paint }).trans (State.grantPaint_changes _)
  · obtain ⟨p, e⟩ := s.grant_frame hw
    exact e ▸ s.port_changes p

theorem State.present_changes (w : Writer) : s.Changes (s.present w) := by
  unfold State.present
  split
  · exact s.grant_changes w
  · exact .refl _

theorem State.release_changes : s.Changes s.release := by
  unfold State.release
  dsimp only
  split
  · exact s.port_changes _
  · split
    · exact (s.port_changes _).trans (State.grant_changes _ _)
    · exact s.port_changes _

/-! ## Counters, cells, the scan engine -/

theorem State.bump_changes (n a : Nat) : s.Changes (s.bump n a) := State.Change.once (.count n a)

theorem State.bumpIf_changes (c : Bool) (n : Nat) : s.Changes (s.bumpIf c n) := by
  unfold State.bumpIf
  split
  · exact s.bump_changes n 1
  · exact .refl _

theorem State.countUnusable_changes : s.Changes s.countUnusable := s.bump_changes 36 1

theorem State.writeBase_changes (i : Nat) (c : Cell) : s.Changes (s.writeBase i c) := by
  unfold State.writeBase
  split
  · exact State.Change.once (.cells _ s.overlay.save (storeSet_wf _ _ _ _) id)
  · exact State.Change.once (.cells s.store.cells _ id (storeSet_wf _ _ _ _))

theorem State.writeBaseAll_changes (ps : List (Nat × Cell)) : s.Changes (s.writeBaseAll ps) := by
  induction ps generalizing s with
  | nil => exact .refl _
  | cons e ps ih => exact (s.writeBase_changes e.1 e.2).trans (ih _)

theorem State.setCells_changes (ps : List (Nat × Cell)) : s.Changes (s.setCells ps) :=
  State.Change.once (.cells _ s.overlay.save (storeSetAll_wf _ _ _) id)

/-- The reading that goes on while a unit is applied. -/
theorem State.scanned_changes {t : State} (h : t.scan = s.scan) : t.Changes (t.scanned s) := by
  have read : t.Change { t with scan := (t.scanned s).scan } := by
    refine .reading _ _ (fun hw => State.readOn_wf s _ _ (h ▸ hw)) fun hn => ?_
    rw [h] at hn
    simp only [Config.cellCount]
    omega
  exact read.once.trans (State.draw_changes _ (s.freeCount + 1))

/-! ## The two orders of one event (log 11) -/

theorem State.inEitherOrder_changes {a b : State → State} (ha : ∀ t : State, t.Changes (a t))
    (hb : ∀ t : State, t.Changes (b t)) : s.Changes (s.inEitherOrder a b) :=
  State.inEitherOrder_elim s a b (((s.draw_changes _).trans (ha _)).trans (hb _))
    (((s.draw_changes _).trans (hb _)).trans (ha _))

/-! ## Paint unit -/

theorem State.takeRestyle_changes (n : Nat) : s.Changes (s.takeRestyle n) :=
  ((State.setSlot_changes (Slot.becomes_unmarked _ _)).trans (State.paintRegister_changes _ _)).trans
    (State.present_changes _ _)

theorem State.takePaint_changes (n : Nat) (p : Pending) : s.Changes (s.takePaint n p) :=
  ((State.setSlot_changes (Slot.becomes_unpending _ _)).trans (State.paintRegister_changes _ _)).trans
    (State.present_changes _ _)

theorem State.paintTake_changes : s.Changes s.paintTake := by
  unfold State.paintTake
  split
  · split
    · exact s.takeRestyle_changes _
    · split
      · exact s.takePaint_changes _ _
      · exact .refl _
  · exact .refl _

theorem State.moveDue_stage {n : Nat} (h : s.moveDue n = true) : (s.slot n).highlight.stage ≠ .none := by
  simp only [State.moveDue, Bool.and_eq_true, decide_eq_true_eq] at h
  exact h.1

theorem State.moveHighlight_changes (n : Nat) : s.Changes (s.moveHighlight n) := by
  unfold State.moveHighlight
  split
  · next h =>
    exact (State.setSlot_changes (Slot.becomes_moved _ (s.moveDue_stage h))).trans (State.paintTake_changes _)
  · exact .refl _

theorem State.applyPaint_changes (v : Value) : s.Changes (s.applyPaint v) := by
  unfold State.applyPaint
  split
  · exact (((s.writeBaseAll_changes _).trans (State.bump_changes _ _ _)).trans (State.bumpIf_changes _ _ _)).trans
      (State.bumpIf_changes _ _ _)
  · exact s.bump_changes _ _

theorem State.applyRestyle_changes : s.Changes s.applyRestyle := by
  unfold State.applyRestyle
  split
  · exact s.writeBaseAll_changes _
  · exact .refl _

/-! ## Lanes -/

theorem State.setLanePort_changes (l : Lane) {p : Port} (h : (s.lanePort l).Fits → p.Fits) :
    s.Changes (s.setLanePort l p) := by
  cases l
  · exact State.Change.once (.ports p s.portB h id)
  · exact State.Change.once (.ports s.portA p id h)

/-- A port that leaves SEND or begins to contend keeps its counts. -/
theorem Port.Fits.of_counts {p q : Port} (h : p.Fits) (ha : q.attempts ≤ p.attempts) (hh : q.hold ≤ p.hold)
    (ht : q.tx ≠ .holdGap) : q.Fits := by
  obtain ⟨h1, h2, -⟩ := h
  exact ⟨ha.trans h1, hh.trans h2, fun e => absurd e ht⟩

theorem contendTx_ne_holdGap (carrier : Bool) (n : Nat) : (if carrier then TxState.defer else .gap n) ≠ .holdGap := by
  cases carrier <;> simp

theorem State.contend_changes (l : Lane) : s.Changes (s.contend l) :=
  s.setLanePort_changes l fun h => h.of_counts le_rfl le_rfl (contendTx_ne_holdGap _ _)

theorem State.portTake_changes (l : Lane) : s.Changes (s.portTake l) := by
  unfold State.portTake
  split
  · split
    · next f _ =>
      exact (s.setLanePort_changes (p := { s.lanePort l with hand := some f.seq }) l fun h => h).trans
        (State.contend_changes _ l)
    · exact .refl _
  · exact .refl _

theorem State.queueFrame_changes (kind : TxKind) (dest : Nat) (payload : List Byte)
    (h : s.tx.frames.length < 4) : s.Changes (s.queueFrame kind dest payload) := by
  refine State.Changes.trans (State.Changes.trans (State.Change.once (.transmitQueue _ (fun _ => ?_) fun _ => ?_))
    (State.portTake_changes _ _)) (State.portTake_changes _ _)
  · simp only [List.length_append, List.length_singleton]; omega
  · exact Nat.min_le_left _ _

theorem replaceBeacon_length {payload : List Byte} {fs gs : List TxFrame} (h : replaceBeacon payload fs = some gs) :
    gs.length = fs.length := by
  induction fs generalizing gs with
  | nil => cases h
  | cons f fs ih =>
    unfold replaceBeacon at h
    split at h
    · cases h; rfl
    · obtain ⟨r, hr, rfl⟩ := Option.map_eq_some_iff.1 h
      simp [ih hr]

theorem State.queueBeacon_changes (payload : List Byte) : s.Changes (s.queueBeacon payload) := by
  unfold State.queueBeacon
  split
  · exact .refl _
  · split
    · next fs hf =>
      exact State.Change.once (.transmitQueue _ (fun h => by simpa [replaceBeacon_length hf] using h) id)
    · split
      · next h => exact s.queueFrame_changes _ _ _ h
      · exact .refl _

theorem State.queueReply_changes (dest kind : Nat) (seq : BitVec 16) (code : ResultCode) (data : List Byte) :
    s.Changes (s.queueReply dest kind seq code data) := by
  unfold State.queueReply
  split
  · exact s.bump_changes _ _
  · next h => exact s.queueFrame_changes _ _ _ (by simp only [not_or, Config.transmitQueueSize] at h; omega)

theorem State.markSend_changes (l : Lane) (q : BitVec 16) (st : SendState) : s.Changes (s.markSend l q st) :=
  State.Change.once (.transmitQueue _
    (fun h => (List.length_filter_le _ _).trans (by simpa using h)) id)

theorem State.dropCarrier_changes (l : Lane) : s.Changes (s.dropCarrier l) := by
  refine s.setLanePort_changes l fun h => ?_
  by_cases hd : (s.lanePort l).tx = .defer
  · exact h.of_counts le_rfl le_rfl (by simp [hd])
  · obtain ⟨h1, h2, h3⟩ := h
    exact ⟨h1, h2, fun e => h3 (by simpa [hd] using e)⟩

theorem State.countReception_changes (l : Lane) (cls : RxClass) (len : Nat) :
    s.Changes (s.countReception l cls len) := by
  unfold State.countReception
  dsimp only
  split
  · exact (s.bump_changes _ _).trans (State.bump_changes _ _ _)
  · exact s.bump_changes _ _

theorem State.takeGood_changes (l : Lane) (bytes : List Byte) : s.Changes (s.takeGood l bytes) := by
  have tagged : ∀ (c : Prop) [Decidable c] (t : State) (n : Nat), t.Changes (if c then t else t.bump n 1) := by
    intro c _ t n
    split
    · exact .refl _
    · exact t.bump_changes n 1
  refine ((s.bump_changes (laneCounter l 1) bytes.length).trans
    (tagged (RxFrame.tag ⟨bytes, l⟩ = l) _ (laneCounter l 9))).trans ?_
  generalize hs2 : (if RxFrame.tag ⟨bytes, l⟩ = l then s.bump (laneCounter l 1) bytes.length
    else (s.bump (laneCounter l 1) bytes.length).bump (laneCounter l 9) 1) = s2
  unfold State.takeGood
  dsimp only
  rw [hs2]
  split
  · next h =>
    refine State.Change.once (.frameQueue _ fun _ => ?_)
    simp only [Config.frameQueueSize] at h
    simp only [List.length_append, List.length_singleton]
    omega
  · exact s2.bump_changes _ _

theorem State.afterSent_changes (l : Lane) : s.Changes (s.afterSent l) := by
  have idle : ∀ rx, s.Changes ((s.setLanePort l { s.lanePort l with
      rx := rx, tx := .idle, hand := none, attempts := 0, hold := 0 }).portTake l) := fun rx =>
    (s.setLanePort_changes l fun h => h.of_counts (Nat.zero_le _) (Nat.zero_le _) (by simp)).trans
      (State.portTake_changes _ l)
  unfold State.afterSent
  dsimp only
  split
  · split
    · next hh => exact s.setLanePort_changes l fun h => ⟨Nat.zero_le _, h.2.1, fun _ => hh⟩
    · exact idle _
  · exact idle _

/-! ## Field table -/

theorem State.applyMatch_changes {n : Nat} (hb : (s.slot n).bound = true) (sender : Nat) (v : Value) :
    s.Changes (s.applyMatch n sender v) := by
  have stamp : ∀ t : State, s.Changes { s with fields := { s.fields with stamp := t.fields.stamp } } := fun t =>
    State.Change.once (.registers s.hand s.text s.paint t.fields.stamp s.port s.scan.blank s.scan.frameBlank
      s.scan.sampled s.crawl.request s.crawl.repeatMark s.crawl.tickDue s.control.heldByPower s.control.clash
      s.control.cause s.freeCount)
  cases hs : (s.slot n).suits v with
  | false => rw [State.applyMatch_rejected s sender v hs]; exact s.bump_changes _ _
  | true =>
    cases hp : (s.slot n).pending with
    | none =>
      rw [State.applyMatch_fresh s sender v hs hp]
      exact ((stamp { s with fields := { s.fields with stamp := s.fields.stamp + 1 } }).trans
        (State.setSlot_changes (Slot.becomes_pending _ hb _))).trans (State.bump_changes _ _ _)
    | some old =>
      rw [State.applyMatch_conflated s sender v hs hp]
      exact ((State.setSlot_changes (Slot.becomes_pending _ hb _)).trans (State.bump_changes _ _ _)).trans
        (State.bump_changes _ _ _)

theorem State.applyMatches_changes (sender : Nat) (v : Value) (ns : List Nat)
    (hb : ∀ n ∈ ns, (s.slot n).bound = true) : s.Changes (s.applyMatches sender v ns) := by
  induction ns generalizing s with
  | nil => exact .refl _
  | cons n ns ih =>
    rw [State.applyMatches_cons]
    refine (s.applyMatch_changes (hb n List.mem_cons_self) sender v).trans (ih _ fun m hm => ?_)
    rw [State.slot_applyMatch]
    split
    · exact hb m (List.mem_cons_of_mem _ hm)
    · exact hb m (List.mem_cons_of_mem _ hm)

theorem State.bound_of_matchesOf {sender instrument field n : Nat} (h : n ∈ s.matchesOf sender instrument field) :
    (s.slot n).bound = true := by
  have := (List.mem_filter.1 h).2
  simp only [Slot.isMatch, Bool.and_eq_true] at this
  exact this.1.1.1

theorem State.applyItem_changes (sender instrument : Nat) (it : Item) :
    s.Changes (s.applyItem sender instrument it) := by
  by_cases h : s.matchesOf sender instrument it.field = []
  · rw [State.applyItem_unmatched h]; exact s.bump_changes _ _
  · rw [State.applyItem_matched h]
    refine (s.draw_changes (s.freeCount + 1)).trans (State.applyMatches_changes _ sender it.value _ fun n hn => ?_)
    exact s.bound_of_matchesOf ((s.inFreeOrder_perm _).mem_iff.1 hn)

theorem State.applyItems_changes (sender instrument : Nat) (items : List Item) :
    s.Changes (s.applyItems sender instrument items) := by
  induction items generalizing s with
  | nil => exact .refl _
  | cons it items ih => exact (s.applyItem_changes sender instrument it).trans (ih _)

theorem State.carryBind_changes {op : BindOp} {kind : FormatKind} {rule : ColourRule} (h : s.bindTest op = .done)
    (hr : bindRange op = some (kind, rule)) : s.Changes (s.carryBind op kind rule) :=
  ((State.Change.once (.bind op kind rule h hr)).trans (State.textRegister_changes _ _)).trans
    (State.present_changes _ _)

theorem State.layoutOp_changes (op : LayoutOp) : s.Changes (s.layoutOp op).1 := by
  cases op with
  | bind b =>
    simp only [State.layoutOp]
    split
    · next ht hr => exact s.carryBind_changes ht hr
    · exact .refl _
  | unbind n =>
    simp only [State.layoutOp]
    split
    · next hb => exact State.Change.once (.unbind n hb)
    · exact .refl _
  | level n prio =>
    simp only [State.layoutOp]
    split
    · exact .refl _
    · split
      · exact (State.setSlot_changes (Slot.becomes_priority _ _ _)).trans (State.paintTake_changes _)
      · exact .refl _

theorem State.layoutAdvance_changes (job : LayoutJob) : s.Changes (s.layoutAdvance job) := by
  unfold State.layoutAdvance
  split
  · exact (s.hand_changes _).trans (State.queueReply_changes _ _ _ _ _ _)
  · exact s.hand_changes _

theorem State.layoutTake_changes (job : LayoutJob) : s.Changes (s.layoutTake job) := by
  unfold State.layoutTake
  split
  · exact s.layoutAdvance_changes job
  · dsimp only
    split
    · exact (s.layoutOp_changes _).trans (State.hand_changes _ _)
    · exact (s.layoutOp_changes _).trans (State.layoutAdvance_changes _ _)

/-- A slot left out of a warm reset is as it was, every other as R54 leaves it. -/
theorem State.slot_fieldWarmReset (hw : storeWf Slot.cold s.fields.slots = true) (n : Nat) :
    s.fieldWarmReset.slot n = s.slot n ∧ s.leftOut n ∨
      s.fieldWarmReset.slot n = (s.slot n).onWarmReset ∧ ¬ s.leftOut n := by
  have mapped := s.slot_mapSlots Slot.onWarmReset n rfl hw
  have one : ∀ m, (s.leftOut n ↔ n = m) →
      s.fieldWarmReset = (s.mapSlots Slot.onWarmReset).setSlot m (s.slot m) →
      s.fieldWarmReset.slot n = s.slot n ∧ s.leftOut n ∨
        s.fieldWarmReset.slot n = (s.slot n).onWarmReset ∧ ¬ s.leftOut n := by
    intro m hl e
    rw [e, State.slot_setSlot, mapped, hl]
    by_cases hn : n = m <;> simp [hn]
  by_cases hp : s.port.holder = some .paint
  · rcases ho : s.paint with _ | ⟨m, g, v, src, st⟩ | ⟨m, g⟩
    · simp [State.fieldWarmReset, State.leftOut, hp, ho, mapped]
    · exact one m (by simp [State.leftOut, hp, ho, eq_comm]) (by simp [State.fieldWarmReset, hp, ho])
    · exact one m (by simp [State.leftOut, hp, ho, eq_comm]) (by simp [State.fieldWarmReset, hp, ho])
  · simp [State.fieldWarmReset, State.leftOut, hp, mapped]

theorem State.fieldWarmReset_changes : s.Changes s.fieldWarmReset := by
  obtain ⟨m, e⟩ := s.fieldWarmReset_frame
  have hm : s.fieldWarmReset.fields.slots = m := by rw [e]
  refine e ▸ State.Change.once (.slots m (fun hw => hm ▸ ?_) fun hw n => ?_)
  · unfold State.fieldWarmReset
    dsimp only
    split
    · exact storeSet_wf _ _ _ _ (storeMap_wf _ _ _ hw)
    · exact storeMap_wf _ _ _ hw
  · have : storeGet Slot.cold m n = s.fieldWarmReset.slot n := by rw [← hm]; rfl
    rw [this]
    rcases s.slot_fieldWarmReset hw n with ⟨h, -⟩ | ⟨h, -⟩ <;> rw [h]
    · exact .refl _ _
    · exact Slot.becomes_onWarmReset _ _

end Sys2Proof.Machine
end

section
/-!
PROOFS. The overlay unit, the group timer, the crawl engine, the peer table, the write units and the resets as chains of
small changes.
-/
namespace Sys2Proof.Machine

variable (s : State)

/-! ## Overlay unit -/

/-- The request in hand is not an OPEN. -/
def State.notOpening (s : State) : Prop := ∀ op requester, s.overlay.request ≠ some (.openLevel op requester)

theorem State.closeTops_changes (n : Nat) (h : s.notOpening) : s.Changes (State.closeTops n s) := by
  induction n generalizing s with
  | zero => exact .refl _
  | succ n ih =>
    obtain ⟨_, _, _, _, e⟩ := s.closeTop_frame
    exact (State.Change.once (.closeTop h)).trans (ih _ (by rw [e]; exact h))

theorem State.applyOrphan_changes (h : s.notOpening) : s.Changes s.applyOrphan := by
  unfold State.applyOrphan
  split
  · exact s.closeTops_changes _ h
  · exact .refl _

theorem State.orphanCheck_changes : s.Changes s.orphanCheck := by
  unfold State.orphanCheck
  split
  · exact (s.request_changes fun _ _ e => by cases e).trans (State.present_changes _ _)
  · exact .refl _

theorem State.overlayReply_changes (sender : Nat) (seq : BitVec 16) (op level : Nat) (code : ResultCode) :
    s.Changes (s.overlayReply sender seq op level code) := s.queueReply_changes _ _ _ _ _

theorem State.presentOverlay_changes {req : OverlayRequest} (sender : Nat) (seq : BitVec 16)
    (h : ∀ op requester, req = .openLevel op requester → s.openTest op = .done) :
    s.Changes (s.presentOverlay req sender seq) :=
  ((s.request_changes (r := some req) fun op requester e => .inr (h op requester (by simpa using e))).trans
    (State.hand_changes _ (.overlayUnit sender seq))).trans (State.present_changes _ _)

theorem State.judgeOverlay_changes (op : OverlayOp) (sender : Nat) (seq : BitVec 16) :
    s.Changes (s.judgeOverlay op sender seq) := by
  cases op <;> simp only [State.judgeOverlay] <;> split
  · next h =>
    refine s.presentOverlay_changes sender seq fun op requester e => ?_
    cases e
    exact h
  · exact s.overlayReply_changes _ _ _ _ _
  · exact s.overlayReply_changes _ _ _ _ _
  · exact s.presentOverlay_changes sender seq fun _ _ e => by cases e
  · exact s.overlayReply_changes _ _ _ _ _
  · exact s.presentOverlay_changes sender seq fun _ _ e => by cases e

theorem State.takeOverlay_changes (f : RxFrame) : s.Changes (s.takeOverlay f) := by
  unfold State.takeOverlay
  split
  · exact s.countUnusable_changes
  · exact s.judgeOverlay_changes _ _ _

/-! ## Group timer and crawl engine -/

theorem State.needRepaint_changes : s.Changes s.needRepaint := by
  unfold State.needRepaint
  split
  · exact .refl _
  · split
    · exact (s.crawlMarks_changes true s.crawl.repeatMark s.crawl.tickDue).trans (State.present_changes _ _)
    · split
      · exact s.crawlMarks_changes s.crawl.request true s.crawl.tickDue
      · exact .refl _

theorem State.applyRepaint_changes : s.Changes s.applyRepaint := by
  unfold State.applyRepaint
  split
  · exact s.setCells_changes _
  · exact .refl _

theorem State.stepCrawl_changes : s.Changes s.stepCrawl :=
  (State.Change.once (.advance _ rfl)).trans (State.needRepaint_changes _)

theorem State.takeTick_changes : s.Changes s.takeTick := by
  unfold State.takeTick
  split
  · exact (s.crawlMarks_changes s.crawl.request s.crawl.repeatMark false).trans (State.stepCrawl_changes _)
  · exact .refl _

theorem State.adoptP_changes (p : BitVec 16) : s.Changes (s.adoptP p) := by
  unfold State.adoptP
  split
  · exact .refl _
  · exact (State.Change.once (.adopt p)).trans (State.needRepaint_changes _)

theorem State.adoptPhase_changes (phase : BitVec 16) : s.Changes (s.adoptPhase phase) := by
  unfold State.adoptPhase
  split
  · exact .refl _
  · exact State.Change.once (.timer phase _ s.group.countdown (fun _ => Nat.min_le_left _ _) fun _ h => h)

theorem State.placeGlyph_changes (c : CrawlText) (j : Nat) (g : Byte) : s.Changes (s.placeGlyph c j g) := by
  unfold State.placeGlyph
  dsimp only
  split
  · next h => exact State.Change.once (.place _ _ rfl h)
  · exact s.bump_changes _ _

theorem State.placeFrom_changes (c : CrawlText) (j : Nat) (gs : List Byte) : s.Changes (State.placeFrom c j gs s) := by
  induction gs generalizing s j with
  | nil => exact .refl _
  | cons g gs ih => exact (s.placeGlyph_changes c j g).trans (ih _ _)

theorem State.takeCrawl_changes (f : RxFrame) : s.Changes (s.takeCrawl f) := by
  unfold State.takeCrawl
  split
  · exact s.countUnusable_changes
  · split
    · dsimp only
      split
      · exact (s.placeFrom_changes _ _ _).trans (State.needRepaint_changes _)
      · exact s.placeFrom_changes _ _ _
    · exact s.countUnusable_changes

theorem State.sendBeacon_changes : s.Changes s.sendBeacon := by
  unfold State.sendBeacon
  split
  · refine (s.takeTick_changes.trans (State.Change.once ?_)).trans (State.queueBeacon_changes _ _)
    exact .timer s.takeTick.group.phase s.takeTick.group.corrections _ id fun h _ => h
  · exact .refl _

theorem State.takeBeacon_changes (f : RxFrame) : s.Changes (s.takeBeacon f) := by
  unfold State.takeBeacon
  split
  · exact s.countUnusable_changes
  · split
    · exact ((s.takeTick_changes.trans (State.sendBeacon_changes _)).trans (State.adoptPhase_changes _ _)).trans
        (State.adoptP_changes _ _)
    · exact .refl _

/-! ## Peers -/

theorem PeerEntry.becomes_heardOn (e : PeerEntry) (lane : Lane) : e.Becomes (e.heardOn lane) := by
  cases lane
  · exact ⟨fun h => ⟨Nat.zero_le _, h.2⟩, id, .inr ⟨rfl, id⟩, id⟩
  · exact ⟨fun h => ⟨h.1, Nat.zero_le _⟩, id, .inr ⟨rfl, id⟩, id⟩

theorem PeerEntry.becomes_taken (e : PeerEntry) (silence lapse : Bool) :
    e.Becomes { e with silenceDue := silence, lapseDue := lapse } := ⟨id, id, .inr ⟨rfl, id⟩, id⟩

theorem PeerEntry.becomes_onBeacon {e e' : PeerEntry} (h : e.Becomes e') (group : Nat) :
    e.Becomes (e'.onBeacon group) := ⟨h.ages, fun _ => Nat.zero_le _, h.silence, h.window⟩

/-- What an accepted frame leaves: the silence age is 0, the lane ages and the beacon fields are as they were, and the
window marks the high sequence (R23 to R27). -/
theorem PeerEntry.judge_accepted {e : PeerEntry} {seq : BitVec 16} {flag : Bool}
    (h : (e.judge seq flag).accepted = true) :
    (e.judge seq flag).entry = { e with
      state := .live, silenceAge := 0
      high := (e.judge seq flag).entry.high, window := (e.judge seq flag).entry.window
      run := (e.judge seq flag).entry.run } ∧
    ((e.state ≠ .unheard → e.marks 0 = true) → (e.judge seq flag).entry.marks 0 = true) := by
  have alone : (1#32).getLsbD 0 = true := by decide
  have ahead : ∀ (w : BitVec 32) (d : Nat), (w <<< d ||| 1#32).getLsbD 0 = true := fun w d => by simp
  revert h
  unfold PeerEntry.judge
  split
  · exact fun _ => ⟨rfl, fun _ => alone⟩
  · next hl =>
    have hl : e.state = .live := not_not.1 hl
    split
    · exact fun _ => ⟨rfl, fun _ => alone⟩
    · unfold PeerEntry.judgeLive
      dsimp only
      split
      · intro h; cases h
      · split
        · exact fun _ => ⟨rfl, fun _ => ahead _ _⟩
        · split
          · split
            · intro h; cases h
            · refine fun _ => ⟨rfl, fun hw => ?_⟩
              have := hw (by simp [hl])
              simp only [PeerEntry.marks, PeerEntry.onAccept] at this ⊢
              simp [this]
          · exact fun _ => ⟨rfl, fun _ => alone⟩

theorem PeerEntry.becomes_judged {e e' : PeerEntry} (h : e.Becomes e') {seq : BitVec 16} {flag : Bool}
    (ha : (e'.judge seq flag).accepted = true) (hw : e'.state = e.state ∧ e'.window = e.window) :
    e.Becomes (e'.judge seq flag).entry := by
  obtain ⟨entry, marks⟩ := PeerEntry.judge_accepted ha
  refine ⟨fun h' => ?_, fun h' => ?_, .inl ?_, fun h' _ => marks ?_⟩
  · rw [entry]; exact h.ages h'
  · rw [entry]; exact h.beacon h'
  · rw [entry]
  · simpa only [PeerEntry.marks, hw.1, hw.2] using h'

theorem State.deliverSilence_changes (p : Nat) : s.Changes (s.deliverSilence p) := by
  unfold State.deliverSilence
  dsimp only
  split
  · next h =>
    have hm : s.control.mode = .running := by simpa [State.isRunning] using h.1
    exact ((State.Change.once (.peer p _ hm (PeerEntry.becomes_taken _ false (s.peer p).lapseDue))).trans
      (State.mapSlots_changes (by rfl) fun r => Slot.becomes_onSilence _ p r)).trans
      (State.inEitherOrder_changes _ State.paintTake_changes State.orphanCheck_changes)
  · exact .refl _

theorem State.deliverReturn_changes (p : Nat) : s.Changes (s.deliverReturn p) :=
  (State.mapSlots_changes (by rfl) fun r => Slot.becomes_onReturn _ p r).trans (State.paintTake_changes _)

theorem State.deliverLapse_changes (p : Nat) : s.Changes (s.deliverLapse p) := by
  unfold State.deliverLapse
  dsimp only
  split
  · next h =>
    have hm : s.control.mode = .running := by simpa [State.isRunning] using h.1
    exact (State.Change.once (.peer p _ hm (PeerEntry.becomes_taken _ (s.peer p).silenceDue false))).trans
      (State.Change.once (.elect hm))
  · exact .refl _

theorem State.acceptFrame_changes (hm : s.control.mode = .running) (f : RxFrame) :
    s.Changes (s.acceptFrame f).1 := by
  obtain ⟨_, _, _, _, _, _, e0⟩ := s.deliverSilence_frame f.sender
  have silent := s.deliverSilence_changes f.sender
  have hm0 : (s.deliverSilence f.sender).control.mode = .running := by rw [e0]; exact hm
  revert silent hm0
  unfold State.acceptFrame
  dsimp only
  generalize s.deliverSilence f.sender = s0
  intro silent hm0
  refine silent.trans ?_
  have heard := PeerEntry.becomes_heardOn (s0.peer f.sender) f.lane
  have state : ((s0.peer f.sender).heardOn f.lane).state = (s0.peer f.sender).state ∧
      ((s0.peer f.sender).heardOn f.lane).window = (s0.peer f.sender).window := by
    cases f.lane <;> exact ⟨rfl, rfl⟩
  generalize (s0.peer f.sender).heardOn f.lane = e at heard state
  split
  · next ha =>
    have judged := PeerEntry.becomes_judged heard ha state
    generalize e.judge f.seq f.restart = v at ha judged
    have counted : s0.Changes (((s0.setPeer f.sender v.entry).bumpIf v.restartRun 34).bumpIf v.resync 33) :=
      ((State.Change.once (.peer _ _ hm0 judged)).trans (State.bumpIf_changes _ _ _)).trans
        (State.bumpIf_changes _ _ _)
    have entered : (((s0.setPeer f.sender v.entry).bumpIf v.restartRun 34).bumpIf v.resync 33).control.mode = .running ∧
        (((s0.setPeer f.sender v.entry).bumpIf v.restartRun 34).bumpIf v.resync 33).peer f.sender = v.entry := by
      obtain ⟨_, e1⟩ := State.bumpIf_frame (s0.setPeer f.sender v.entry) v.restartRun 34
      obtain ⟨_, e2⟩ := State.bumpIf_frame ((s0.setPeer f.sender v.entry).bumpIf v.restartRun 34) v.resync 33
      rw [e2, e1]
      exact ⟨hm0, State.peer_setPeer_same _ _ _⟩
    generalize ((s0.setPeer f.sender v.entry).bumpIf v.restartRun 34).bumpIf v.resync 33 = s1 at counted entered
    have returned : s0.Changes (if e.isLive then s1 else s1.deliverReturn f.sender) ∧
        (if e.isLive then s1 else s1.deliverReturn f.sender).control.mode = .running ∧
        (if e.isLive then s1 else s1.deliverReturn f.sender).peer f.sender = v.entry := by
      split
      · exact ⟨counted, entered⟩
      · obtain ⟨_, _, _, e3⟩ := s1.deliverReturn_frame f.sender
        exact ⟨counted.trans (s1.deliverReturn_changes _), by rw [e3]; exact entered.1, by rw [e3]; exact entered.2⟩
    generalize (if e.isLive then s1 else s1.deliverReturn f.sender) = s2 at returned
    obtain ⟨changes, running, entry⟩ := returned
    split
    · refine changes.trans ((State.Change.once (.peer _ _ running ?_)).trans (State.Change.once (.elect running)))
      rw [entry]
      exact PeerEntry.becomes_onBeacon (.refl _) _
    · exact changes
  · exact (State.Change.once (.peer _ _ hm0 heard)).trans (State.bump_changes _ _ _)

theorem State.intake_changes (hm : s.control.mode = .running) (f : RxFrame) : s.Changes (s.intake f).1 := by
  unfold State.intake
  split
  · refine (s.bump_changes 35 1).trans (State.Change.once ?_)
    exact .registers s.hand s.text s.paint s.fields.stamp s.port s.scan.blank s.scan.frameBlank s.scan.sampled
      s.crawl.request s.crawl.repeatMark s.crawl.tickDue s.control.heldByPower true s.control.cause s.freeCount
  · exact s.acceptFrame_changes hm f

/-- A row of the dispatcher changes what its handler changes, while RUNNING. -/
theorem State.dispatch_changes (takes : RxFrame → Bool) {handler : RxFrame → State → State}
    (h : ∀ (f : RxFrame) (u : State), u.control.mode = .running → u.Changes (handler f u)) :
    s.Changes (s.dispatch takes handler) := by
  unfold State.dispatch
  split
  · next hd =>
    have hm : s.control.mode = .running := by simpa [State.isRunning] using hd.1
    split
    · exact .refl _
    · next f rest hq =>
      split
      · have popped : s.Changes { s with frameQueue := rest } :=
          State.Change.once (.frameQueue rest fun hl => by rw [hq] at hl; simp at hl; omega)
        have taken := popped.trans (State.intake_changes { s with frameQueue := rest } hm f)
        obtain ⟨_, _, _, _, _, _, _, _, _, _, e⟩ := State.intake_frame { s with frameQueue := rest } f
        dsimp only
        split
        · exact taken.trans (h f _ (by rw [e]; exact hm))
        · exact taken
      · exact .refl _
  · exact .refl _

/-! ## Resets -/

theorem State.withdraw_changes : s.Changes s.withdraw := by
  refine State.Changes.trans (State.Change.once (.registers .idle (if s.port.holder = some .text then s.text else none)
    (if s.port.holder = some .paint then s.paint else none) s.fields.stamp s.port s.scan.blank s.scan.frameBlank
    s.scan.sampled (s.crawl.request && decide (s.port.holder = some .crawl)) s.crawl.repeatMark s.crawl.tickDue
    s.control.heldByPower s.control.clash s.control.cause s.freeCount)) (State.request_changes _ fun op requester e => ?_)
  split at e
  · next h => exact .inl (by simp [h])
  · cases e

theorem Port.Fits.stop {p : Port} (h : p.Fits) : p.stop.Fits := h.of_counts (Nat.zero_le _) (Nat.zero_le _) (by simp [Port.stop])

theorem State.stopPorts_changes : s.Changes s.stopPorts :=
  State.Change.once (.ports _ _ Port.Fits.stop Port.Fits.stop)

theorem Port.Fits.inhibit {p : Port} (h : p.Fits) (running : Bool) : (p.inhibit running).Fits :=
  h.of_counts (Nat.zero_le _) (Nat.zero_le _) (by simp [Port.inhibit])

theorem State.beginInhibit_changes : s.Changes s.beginInhibit :=
  (State.Change.once (.transmitQueue { s.tx with frames := [] } (fun _ => Nat.zero_le _) id)).trans
    (State.Change.once (.ports _ _ (Port.Fits.inhibit · s.isRunning) (Port.Fits.inhibit · s.isRunning)))

theorem State.enterRunning_changes : s.Changes s.enterRunning :=
  ((State.Change.once (.ports s.portA.start s.portB.start id id)).trans (State.Change.once .run)).trans
    (State.inEitherOrder_changes _ State.needRepaint_changes State.paintTake_changes)

theorem State.warmProgress_changes : s.Changes s.warmProgress := by
  unfold State.warmProgress
  split
  · exact (s.request_changes fun _ _ e => by cases e).trans (State.present_changes _ _)
  · split
    · exact s.enterRunning_changes
    · exact .refl _

theorem State.afterUnit_changes : s.Changes s.afterUnit := by
  unfold State.afterUnit
  split
  · exact s.warmProgress_changes
  · exact .refl _

theorem State.warmActions_changes (cause : Cause) (running : Bool) : s.Changes (s.warmActions cause running) := by
  refine ((s.takeTick_changes.trans (State.withdraw_changes _)).trans (State.fieldWarmReset_changes _)).trans ?_
  unfold State.warmActions
  generalize s.takeTick.withdraw.fieldWarmReset = w
  have emptied : w.Changes { w.stopPorts with frameQueue := [], tx := { w.tx with frames := [] } } :=
    (w.stopPorts_changes.then (.frameQueue [] fun _ => Nat.zero_le _)).then
      (.transmitQueue { w.tx with frames := [] } (fun _ => Nat.zero_le _) id)
  exact (emptied.then (.unwinding (if running then .reference else w.control.clock))).then
    (.registers w.hand w.text w.paint w.fields.stamp w.port w.scan.blank w.scan.frameBlank w.scan.sampled
      w.crawl.request false w.crawl.tickDue w.control.heldByPower false cause w.freeCount)

theorem State.warmReset_changes (cause : Cause) (running : Bool) : s.Changes (s.warmReset cause running) :=
  (s.warmActions_changes cause running).trans (State.warmProgress_changes _)

/-- A cold reset's values, whatever its cause is recorded as. -/
theorem State.coldStart_changes (hm : s.control.mode = .held) (cause : Option Cause) :
    s.Changes { s.coldStart with control := { s.coldStart.control with coldCause := cause } } := by
  refine s.withdraw_changes.trans ?_
  have hw : s.withdraw.control.mode = .held := hm
  unfold State.coldStart
  generalize s.withdraw = w at hw
  have emptied : w.Changes { w.stopPorts with frameQueue := [], tx := { frames := [], seq := 0, queued := 0 } } :=
    (w.stopPorts_changes.then (.frameQueue [] fun _ => Nat.zero_le _)).then
      (.transmitQueue { frames := [], seq := 0, queued := 0 } (fun _ => Nat.zero_le _) fun _ => Nat.zero_le _)
  exact (emptied.then (.cold cause hw)).then
    (.registers w.hand w.text w.paint w.fields.stamp w.port true true w.scan.sampled
      w.crawl.request false false w.control.heldByPower w.control.clash w.control.cause w.freeCount)

theorem State.enterHeld_changes (byPower : Bool) : s.Changes (s.enterHeld byPower) := by
  refine (s.withdraw_changes.trans (State.stopPorts_changes _)).trans ?_
  unfold State.enterHeld
  dsimp only
  generalize s.withdraw.stopPorts = w
  refine (State.Change.once .held).trans (State.Change.once ?_)
  exact .registers w.hand w.text w.paint w.fields.stamp w.port w.scan.blank w.scan.frameBlank w.scan.sampled
    w.crawl.request w.crawl.repeatMark w.crawl.tickDue byPower w.control.clash w.control.cause w.freeCount

/-- LOADING begins in a cold reset. -/
theorem State.beginLoading_changes (h : s.control.coldCause ≠ none) (cause : Cause) (running : Bool) :
    s.Changes (s.beginLoading cause running) :=
  (State.Change.once (.loading cause (if running then .reference else s.control.clock) h)).trans
    (State.Change.once (.registers s.hand s.text s.paint s.fields.stamp s.port s.scan.blank s.scan.frameBlank
      s.scan.sampled s.crawl.request s.crawl.repeatMark s.crawl.tickDue s.control.heldByPower false cause s.freeCount))

/-! ## The ends of the write units -/

theorem State.paintEnded_changes (slot : Nat) : s.Changes (s.paintEnded slot) := by
  refine ((s.paintRegister_changes none).trans (State.release_changes _)).trans ?_
  unfold State.paintEnded
  dsimp only
  generalize State.release { s with paint := none } = r
  refine State.Changes.trans ?_ ((State.paintTake_changes _).trans (State.afterUnit_changes _))
  split
  · exact State.setSlot_changes (Slot.becomes_onWarmReset _ _)
  · exact .refl _

theorem State.endPaint_changes : s.Changes s.endPaint := by
  unfold State.endPaint
  split
  · next v _ _ _ =>
    obtain ⟨_, _, _, e⟩ := s.applyPaint_frame v
    exact ((s.applyPaint_changes v).trans (s.scanned_changes (by rw [e]))).trans (State.paintEnded_changes _ _)
  · exact .refl _

theorem State.endRestyle_changes : s.Changes s.endRestyle := by
  unfold State.endRestyle
  split
  · obtain ⟨_, _, e⟩ := s.applyRestyle_frame
    exact (s.applyRestyle_changes.trans (s.scanned_changes (by rw [e]))).trans (State.paintEnded_changes _ _)
  · exact .refl _

theorem State.applyBaseRun_changes (r : Run) : s.Changes (s.applyBaseRun r) := by
  unfold State.applyBaseRun
  generalize r.columns 128 = cols
  induction cols generalizing s with
  | nil => exact .refl _
  | cons e cols ih =>
    refine State.Changes.trans ?_ (ih _)
    unfold State.baseCellRun
    dsimp only
    split
    · exact s.writeBase_changes _ _
    · exact s.bump_changes _ _

theorem State.applyTopRun_changes (r : Run) : s.Changes (s.applyTopRun r) := by
  unfold State.applyTopRun
  split
  · exact s.countUnusable_changes
  · dsimp only
    split
    · exact s.setCells_changes _
    · exact s.countUnusable_changes

/-- What the end of the text writer's unit makes of the frame in the dispatcher's hand (R20, R44). -/
def State.textHanded (s : State) : State :=
  match s.hand with
  | .paint _ => { s with hand := .idle }
  | .layoutFill job => s.layoutTake job
  | _ => s

theorem State.textEnded_eq : s.textEnded = (({ s with text := none } : State).release.textHanded).afterUnit := rfl

theorem State.textHanded_changes : s.Changes s.textHanded := by
  unfold State.textHanded
  split
  · exact s.hand_changes _
  · exact s.layoutTake_changes _
  · exact .refl _

theorem State.textEnded_changes : s.Changes s.textEnded :=
  ((s.textRegister_changes none).trans (State.release_changes _)).trans
    ((State.textHanded_changes _).trans (State.afterUnit_changes _))

theorem State.writeBaseAll_scan (ps : List (Nat × Cell)) : (s.writeBaseAll ps).scan = s.scan := by
  obtain ⟨_, _, e⟩ := s.writeBaseAll_frame ps
  rw [e]

theorem State.endFill_changes : s.Changes s.endFill := by
  unfold State.endFill
  split
  · next place base _ =>
    exact ((s.writeBaseAll_changes _).trans (s.scanned_changes (s.writeBaseAll_scan _))).trans (State.textEnded_changes _)
  · exact .refl _

theorem State.endBaseRun_changes : s.Changes s.endBaseRun := by
  unfold State.endBaseRun
  split
  · next r _ =>
    obtain ⟨_, _, _, e⟩ := s.applyBaseRun_touches r
    exact ((s.applyBaseRun_changes r).trans (s.scanned_changes (by rw [e]))).trans (State.textEnded_changes _)
  · exact .refl _

theorem State.endTopRun_changes : s.Changes s.endTopRun := by
  unfold State.endTopRun
  split
  · next r _ =>
    obtain ⟨_, _, _, e⟩ := s.applyTopRun_touches r
    exact ((s.applyTopRun_changes r).trans (s.scanned_changes (by rw [e]))).trans (State.textEnded_changes _)
  · exact .refl _

theorem State.overlayFreed_changes : s.Changes s.overlayFreed :=
  (s.request_changes fun _ _ e => by cases e).trans (State.release_changes _)

theorem State.answerOverlay_changes (op level : Nat) : s.Changes (s.answerOverlay op level) := by
  unfold State.answerOverlay
  split
  · exact (s.hand_changes _).trans (State.overlayReply_changes _ _ _ _ _ _)
  · exact .refl _

/-- What follows the release of the port after an OPEN, a CLOSE or a CLOSE_ALL. -/
theorem State.overlayAnswer_changes (op level : Nat) :
    s.Changes ((s.release.answerOverlay op level).orphanCheck).afterUnit :=
  ((s.release_changes.trans (State.answerOverlay_changes _ _ _)).trans (State.orphanCheck_changes _)).trans
    (State.afterUnit_changes _)

theorem State.overlayEnded_changes (op level : Nat) : s.Changes (s.overlayEnded op level) :=
  (s.request_changes (r := none) fun _ _ e => by cases e).trans (State.overlayAnswer_changes _ op level)

theorem State.endOpen_changes : s.Changes s.endOpen := by
  unfold State.endOpen
  split
  · next op requester h =>
    exact ((State.Change.once (.openLevel op requester h)).trans
      (s.scanned_changes (t := { s.applyOpen op requester with
        overlay := { (s.applyOpen op requester).overlay with request := none } }) rfl)).trans
      (State.overlayAnswer_changes _ 1 (s.overlay.levels.length + 1))
  · exact .refl _

theorem State.notOpening_of {s : State} {r : OverlayRequest} (h : s.overlay.request = some r)
    (hr : ∀ op requester, r ≠ .openLevel op requester) : s.notOpening :=
  fun op requester e => hr op requester (by simpa [h] using e)

theorem State.scan_closeTops (n : Nat) : (State.closeTops n s).scan = s.scan := by
  obtain ⟨_, _, _, _, e⟩ := s.closeTops_frame n
  rw [e]

theorem State.endClose_changes : s.Changes s.endClose := by
  unfold State.endClose
  split
  · next h =>
    exact ((s.closeTops_changes 1 (State.notOpening_of h (by simp))).trans
      (s.scanned_changes (s.scan_closeTops 1))).trans (State.overlayEnded_changes _ _ _)
  · exact .refl _

theorem State.endCloseAll_changes : s.Changes s.endCloseAll := by
  unfold State.endCloseAll
  split
  · next h =>
    exact ((s.closeTops_changes _ (State.notOpening_of h (by simp))).trans
      (s.scanned_changes (s.scan_closeTops _))).trans (State.overlayEnded_changes _ _ _)
  · exact .refl _

theorem State.endOrphan_changes : s.Changes s.endOrphan := by
  unfold State.endOrphan
  split
  · next h =>
    obtain ⟨_, _, _, _, e⟩ := s.applyOrphan_frame
    exact (((s.applyOrphan_changes (State.notOpening_of h (by simp))).trans (s.scanned_changes (by rw [e]))).trans
      (State.overlayFreed_changes _)).trans ((State.orphanCheck_changes _).trans (State.afterUnit_changes _))
  · exact .refl _

theorem State.endUnwinding_changes : s.Changes s.endUnwinding := by
  unfold State.endUnwinding
  split
  · next h =>
    exact ((s.closeTops_changes _ (State.notOpening_of h (by simp))).trans
      (s.scanned_changes (s.scan_closeTops _))).trans
      ((State.overlayFreed_changes _).trans (State.afterUnit_changes _))
  · exact .refl _

theorem State.endRepaint_changes : s.Changes s.endRepaint := by
  have applied : s.applyRepaint.scan = s.scan := by
    unfold State.applyRepaint
    split <;> rfl
  refine (s.applyRepaint_changes.trans (s.scanned_changes applied)).trans ?_
  unfold State.endRepaint
  dsimp only
  generalize s.applyRepaint.scanned s = w
  refine State.Changes.trans ((w.crawlMarks_changes false false w.crawl.tickDue).trans (State.release_changes _))
    (State.Changes.trans ?_ (State.afterUnit_changes _))
  split
  · exact State.needRepaint_changes _
  · exact .refl _

theorem State.endHeldUnit_changes : s.Changes s.endHeldUnit := by
  unfold State.endHeldUnit
  (repeat' split) <;> first
    | exact .refl _
    | exact s.endRestyle_changes
    | exact s.endPaint_changes
    | exact s.endBaseRun_changes
    | exact s.endTopRun_changes
    | exact s.endFill_changes
    | exact s.endRepaint_changes
    | exact s.endOpen_changes
    | exact s.endClose_changes
    | exact s.endCloseAll_changes
    | exact s.endOrphan_changes
    | exact s.endUnwinding_changes

end Sys2Proof.Machine
end

section
/-!
PROOFS. Every command is a chain of small changes; so a law that every small change keeps is kept by every step.
-/
namespace Sys2Proof.Machine

variable (s : State)

/-! ## Rows of the dispatcher -/

theorem takeLayout_changes (f : RxFrame) : s.Changes (takeLayout f s) := by
  unfold takeLayout
  split
  · exact s.countUnusable_changes
  · exact s.layoutTake_changes _

theorem takeQuote_changes (f : RxFrame) : s.Changes (State.takeQuote f s) := by
  unfold State.takeQuote
  split
  · exact s.countUnusable_changes
  · exact (s.applyItems_changes _ _ _).trans (State.paintTake_changes _)

theorem takePresence_changes (f : RxFrame) : s.Changes (takePresence f s) := by
  unfold takePresence
  split
  · exact .refl _
  · exact s.countUnusable_changes

theorem takePaintFrame_changes (f : RxFrame) : s.Changes (takePaintFrame f s) := by
  unfold takePaintFrame
  split
  · exact s.countUnusable_changes
  · next top run _ =>
    exact ((s.textRegister_changes (some (if top then .top run else .base run))).trans
      (State.hand_changes _ (.paint f))).trans (State.present_changes _ _)

theorem handOverlay_changes (f : RxFrame) : s.Changes (handOverlay f s) := by
  unfold handOverlay
  split
  · exact s.hand_changes _
  · exact s.takeOverlay_changes f

theorem State.layoutRow_changes (code : Nat) : s.Changes (s.layoutRow code) := by
  unfold State.layoutRow
  split
  · split
    · split
      · exact s.layoutTake_changes _
      · exact .refl _
    · exact .refl _
  · exact s.dispatch_changes _ fun f u _ => takeLayout_changes u f

theorem State.overlayRow_changes (code : Nat) : s.Changes (s.overlayRow code) := by
  unfold State.overlayRow
  split
  · split
    · exact (s.hand_changes .idle).trans (State.takeOverlay_changes _ _)
    · exact .refl _
  · exact s.dispatch_changes _ fun f u _ => handOverlay_changes u f

theorem State.answerQuery_changes (f : RxFrame) (code : ResultCode) (data : List Byte) :
    s.Changes (s.answerQuery f code data) := s.queueReply_changes _ _ _ _ _

theorem takeStatus_changes (f : RxFrame) : s.Changes (takeStatus f s) := by
  unfold takeStatus
  split
  · exact s.answerQuery_changes _ _ _
  · exact s.countUnusable_changes

theorem takeCapture_changes (f : RxFrame) : s.Changes (takeCapture f s) := by
  unfold takeCapture
  split
  · exact (State.Change.once .capture).trans (State.answerQuery_changes _ _ _ _)
  · exact s.countUnusable_changes

theorem takeCounters_changes (f : RxFrame) : s.Changes (takeCounters f s) := by
  unfold takeCounters
  split
  · split
    · exact s.answerQuery_changes _ _ _
    · exact s.answerQuery_changes _ _ _
  · exact s.countUnusable_changes

theorem takeSlot_changes (f : RxFrame) : s.Changes (takeSlot f s) := by
  unfold takeSlot
  split
  · dsimp only
    split
    · exact (s.draw_changes _).trans (State.answerQuery_changes _ _ _ _)
    · exact s.answerQuery_changes _ _ _
  · exact s.countUnusable_changes

theorem takeRestart_changes (running : Bool) (f : RxFrame) : s.Changes (takeRestart running f s) := by
  unfold takeRestart
  split
  · exact s.warmReset_changes _ _
  · exact s.countUnusable_changes

theorem takeBadRequest_changes (f : RxFrame) : s.Changes (takeBadRequest f s) := by
  unfold takeBadRequest
  split
  · exact s.countUnusable_changes
  · exact s.answerQuery_changes _ _ _

/-! ## Frame starts -/

theorem State.foldl_changes {α : Type} {g : State → α → State} (h : ∀ (t : State) (x : α), t.Changes (g t x))
    (xs : List α) : s.Changes (xs.foldl g s) := by
  induction xs generalizing s with
  | nil => exact .refl _
  | cons x xs ih => exact (h s x).trans (ih _)

theorem State.takeRaised_changes : s.Changes s.takeRaised := by
  unfold State.takeRaised
  dsimp only
  split
  · exact ((((s.foldl_changes State.deliverSilence_changes _).trans
      (State.foldl_changes _ State.deliverLapse_changes _)).trans
      (State.foldl_changes _ State.moveHighlight_changes _)).trans (State.takeTick_changes _)).trans
      (State.sendBeacon_changes _)
  · split
    · exact .refl _
    · exact s.foldl_changes State.moveHighlight_changes _

theorem State.scanFrameStart_changes : s.Changes s.scanFrameStart := by
  have read : s.Change { s with scan := { s.scan with frame := s.scanFrameStart.scan.frame, read := 6144 } } :=
    .reading _ _ (s.readOn_wf _ _) fun _ => le_rfl
  exact read.once.then (.registers s.hand s.text s.paint s.fields.stamp s.port
    (s.scan.blank && s.control.coldCause.isSome) s.scan.frameBlank s.scan.sampled s.crawl.request s.crawl.repeatMark
    s.crawl.tickDue s.control.heldByPower s.control.clash s.control.cause (s.freeCount + 1))

theorem State.tickPhase_changes : s.Changes s.tickPhase :=
  (State.Change.once (.timer (s.group.phase + 1) s.group.corrections (s.group.countdown - 1) id
    fun _ h => (Nat.sub_le _ _).trans h)).trans
    (State.crawlMarks_changes _ s.crawl.request s.crawl.repeatMark
      (s.crawlEnabled && decide ((s.group.phase + 1).toNat % s.control.config.crawlStep = 0)))

@[simp] theorem State.moveHighlight_control (n : Nat) : (s.moveHighlight n).control = s.control := by
  obtain ⟨_, _, _, e⟩ := s.moveHighlight_frame n
  rw [e]

@[simp] theorem State.deliverSilence_control (p : Nat) : (s.deliverSilence p).control = s.control := by
  obtain ⟨_, _, _, _, _, _, e⟩ := s.deliverSilence_frame p
  rw [e]

@[simp] theorem State.deliverLapse_control (p : Nat) : (s.deliverLapse p).control = s.control := by
  obtain ⟨_, _, _, e⟩ := s.deliverLapse_frame p
  rw [e]

@[simp] theorem State.takeTick_control : s.takeTick.control = s.control := by
  obtain ⟨_, _, e⟩ := s.takeTick_frame
  rw [e]

@[simp] theorem State.sendBeacon_control : s.sendBeacon.control = s.control := by
  obtain ⟨_, _, _, _, _, _, e⟩ := s.sendBeacon_frame
  rw [e]

theorem State.foldl_control {α : Type} {g : State → α → State} (h : ∀ (t : State) (x : α), (g t x).control = t.control)
    (xs : List α) : (xs.foldl g s).control = s.control := by
  induction xs generalizing s with
  | nil => rfl
  | cons x xs ih => exact (ih _).trans (h s x)

/-- What a frame start raised leaves the control unit alone. -/
theorem State.takeRaised_control : s.takeRaised.control = s.control := by
  unfold State.takeRaised
  dsimp only
  split
  · rw [State.sendBeacon_control, State.takeTick_control, State.foldl_control _ State.moveHighlight_control,
      State.foldl_control _ State.deliverLapse_control, State.foldl_control _ State.deliverSilence_control]
  · split
    · rfl
    · exact s.foldl_control State.moveHighlight_control _

/-! ## The commands -/

variable {s} {t : State}

theorem goOn_changes {u : State} (h : s.Changes u) : ∀ t, goOn u = .next t → s.Changes t := fun t e => by
  cases e
  exact h

theorem execLane_changes (c : Instr) (lane : Lane)
    (hc : c = .carrierArrival lane ∨ c = .jabberCutoff lane ∨ c = .gapExpiry lane ∨
      c = .transmitComplete lane ∨ c = .holdGapExpiry lane ∨ c = .collision lane ∨ c = .jamEnd lane ∨
      c = .backoffExpiry lane ∨ c = .carrierDrop lane) (h : exec c s = .next t) : s.Changes t := by
  rcases hc with rfl | rfl | rfl | rfl | rfl | rfl | rfl | rfl | rfl <;> revert h
  · change execCarrierArrival lane s = _ → _
    unfold execCarrierArrival
    dsimp only
    split
    · exact goOn_changes (.refl _) t
    · refine goOn_changes (s.setLanePort_changes lane fun h => ?_) t
      obtain ⟨h1, h2, h3⟩ := h
      refine ⟨h1, h2, ?_⟩
      dsimp only
      split
      · simp
      · exact h3
  · change execJabberCutoff lane s = _ → _
    unfold execJabberCutoff
    dsimp only
    split
    · exact goOn_changes ((s.setLanePort_changes (p := { s.lanePort lane with rx := .ignoring }) lane fun h => h).trans
        (State.bump_changes _ _ _)) t
    · exact goOn_changes (.refl _) t
  · change execGapExpiry lane s = _ → _
    unfold execGapExpiry
    dsimp only
    split
    · refine goOn_changes ?_ t
      exact s.setLanePort_changes lane fun h => ⟨h.1, Nat.le_add_right 1 2, fun e => by cases e⟩
    · exact goOn_changes (.refl _) t
  · change execTransmitComplete lane s = _ → _
    unfold execTransmitComplete
    dsimp only
    split
    · exact goOn_changes ((s.markSend_changes _ _ _).trans (State.afterSent_changes _ _)) t
    · exact goOn_changes (.refl _) t
  · change execHoldGapExpiry lane s = _ → _
    unfold execHoldGapExpiry
    dsimp only
    split
    · next ht _ =>
      refine goOn_changes ?_ t
      exact s.setLanePort_changes lane fun h => ⟨h.1, h.2.2 ht, fun e => by cases e⟩
    · exact goOn_changes (.refl _) t
  · change execCollision lane s = _ → _
    unfold execCollision
    dsimp only
    split
    · next q _ hq =>
      have drawn := (s.bump_changes (laneCounter lane 11) 1).trans (State.draw_changes _ (s.freeCount + 1))
      split
      · refine goOn_changes ((drawn.trans 
          ((State.markSend_changes _ lane q .abandoned).trans (State.bump_changes _ (laneCounter lane 12) 1))).trans ?_) t
        exact State.setLanePort_changes _ lane fun _ => ⟨Nat.zero_le _, Nat.zero_le _, fun e => by cases e⟩
      · next ht =>
        refine goOn_changes (drawn.trans ?_) t
        exact State.setLanePort_changes _ lane fun _ => ⟨by dsimp only; omega, Nat.zero_le _, fun e => by cases e⟩
    · exact goOn_changes (.refl _) t
  · change execJamEnd lane s = _ → _
    unfold execJamEnd
    dsimp only
    split
    · refine goOn_changes (State.Changes.trans ?_ (State.portTake_changes _ _)) t
      exact s.setLanePort_changes lane fun h => h.of_counts le_rfl le_rfl (by simp)
    · have backed := s.setLanePort_changes lane (p := { s.lanePort lane with
        rx := rxOpened (s.lanePort lane).carrier
        tx := .backoff (backoffSlots s.control.config.station (s.lanePort lane).attempts) })
        fun h => h.of_counts le_rfl le_rfl (by simp)
      split
      · exact goOn_changes (backed.trans (State.contend_changes _ _)) t
      · exact goOn_changes backed t
    · exact goOn_changes (.refl _) t
  · change execBackoffExpiry lane s = _ → _
    unfold execBackoffExpiry
    split
    · exact goOn_changes (s.contend_changes _) t
    · exact goOn_changes (.refl _) t
  · change execCarrierDrop lane s = _ → _
    unfold execCarrierDrop
    dsimp only
    split
    · exact goOn_changes (s.dropCarrier_changes _) t
    · exact goOn_changes (.refl _) t

theorem execFrameEnd_changes (lane : Lane) (times rest : List BitTime) (h : execFrameEnd lane times rest s = .next t) :
    s.Changes t := by
  revert h
  unfold execFrameEnd
  split
  · intro h; cases h
  · split
    · dsimp only
      have counted := (s.dropCarrier_changes lane).trans
        (State.countReception_changes _ lane (classify (lineBytes times) (lineViolation (times ++ rest)))
          (lineBytes times).length)
      split
      · exact goOn_changes (counted.trans (State.takeGood_changes _ _ _)) t
      · exact goOn_changes counted t
    · exact goOn_changes (.refl _) t

theorem execUnit_changes {w : Writer} {u : State} (h : s.Changes u)
    (e : (if s.port.holder = some w then goOn u else goOn s) = .next t) : s.Changes t := by
  revert e
  split
  · exact goOn_changes h t
  · exact goOn_changes (.refl _) t

theorem execFrameStart_changes (h : execFrameStart s = .next t) : s.Changes t := by
  revert h
  unfold execFrameStart
  dsimp only
  have started := s.takeRaised_changes.trans (State.scanFrameStart_changes _)
  have aged : ∀ u : State, u.Changes (u.mapSlots Slot.ageHighlight) := fun u =>
    State.mapSlots_changes (by rfl) (Slot.becomes_aged _)
  split
  · next hr =>
    have hm : s.takeRaised.scanFrameStart.control.mode = .running := by
      have : s.control.mode = .running := by simpa [State.isRunning] using hr
      exact (congrArg Control.mode s.takeRaised_control).trans this
    exact goOn_changes (((started.then (.agePeers hm)).trans (aged _)).trans (State.tickPhase_changes _)) t
  · split
    · exact goOn_changes started t
    · exact goOn_changes (started.trans (aged _)) t

theorem execActiveStart_changes (h : execActiveStart s = .next t) : s.Changes t := by
  revert h
  unfold execActiveStart
  dsimp only
  generalize hw : s.takeRaised = w
  have raised : s.Changes w := hw ▸ s.takeRaised_changes
  refine goOn_changes ((raised.then (.reading [] 0 (fun _ => rfl) fun _ => Nat.zero_le _)).then ?_) t
  exact .registers w.hand w.text w.paint w.fields.stamp w.port w.scan.blank w.scan.blank w.group.phase w.crawl.request
    w.crawl.repeatMark w.crawl.tickDue w.control.heldByPower w.control.clash w.control.cause w.freeCount

theorem execPowerOn_changes (h : execPowerOn s = .next t) : s.Changes t := by
  revert h
  unfold execPowerOn
  dsimp only
  have off := (s.enterHeld_changes true).then .backup
  have hm : (s.enterHeld true).control.mode = .held := rfl
  generalize s.enterHeld true = w at off hm
  unfold State.heldValues
  split
  · exact goOn_changes (off.trans (State.coldStart_changes
      { w with control := { w.control with clock := .backup } } hm (some (w.control.coldCause.getD .power)))) t
  · next hc =>
    have same : some (w.control.coldCause.getD .power) = w.control.coldCause := by
      cases hw : w.control.coldCause with
      | none => simp [hw] at hc
      | some c => rfl
    rw [same]
    exact goOn_changes off t

theorem execResetAssert_changes (h : execResetAssert s = .next t) : s.Changes t := by
  revert h
  unfold execResetAssert
  split
  · exact goOn_changes (.refl _) t
  · refine goOn_changes ((s.enterHeld_changes false).trans ?_) t
    unfold State.heldValues
    split
    · exact State.coldStart_changes _ rfl _
    · exact .refl _

theorem execHeldEnd_changes (coldLow running : Bool) (h : execHeldEnd coldLow running s = .next t) : s.Changes t := by
  revert h
  unfold execHeldEnd
  split
  · next hm =>
    have cold : ∀ cause, s.Changes (s.coldStart.beginLoading cause running) := fun cause =>
      (s.coldStart_changes hm (some cause)).trans (State.beginLoading_changes _ (by simp) cause running)
    split
    · next hc => exact goOn_changes (s.beginLoading_changes (by simp [hc]) _ _) t
    · exact goOn_changes (cold _) t
    · split
      · exact goOn_changes (cold _) t
      · exact goOn_changes (s.warmReset_changes _ _) t
  · exact goOn_changes (.refl _) t

/-! ## The unit that ends at LOADING_COMPLETE (log 13) -/

section Mode

variable (s)

theorem State.afterUnit_of_ne (h : s.control.mode ≠ .unwinding) : s.afterUnit = s := if_neg h

@[simp] theorem State.paintTake_control : s.paintTake.control = s.control := by
  obtain ⟨_, _, _, e⟩ := s.paintTake_frame
  rw [e]

@[simp] theorem State.orphanCheck_control : s.orphanCheck.control = s.control := by
  obtain ⟨_, _, e⟩ := s.orphanCheck_frame
  rw [e]

@[simp] theorem State.needRepaint_control : s.needRepaint.control = s.control := by
  obtain ⟨_, _, _, e⟩ := s.needRepaint_frame
  rw [e]

@[simp] theorem State.layoutTake_mode (job : LayoutJob) : (s.layoutTake job).control.mode = s.control.mode := by
  obtain ⟨_, _, _, _, _, _, _, _, _, _, e⟩ := s.layoutTake_frame job
  rw [e]

@[simp] theorem State.answerOverlay_mode (op level : Nat) :
    (s.answerOverlay op level).control.mode = s.control.mode := by
  unfold State.answerOverlay
  split
  · exact State.queueReply_mode _ _ _ _ _ _
  · rfl

@[simp] theorem State.applyPaint_mode (v : Value) : (s.applyPaint v).control.mode = s.control.mode := by
  obtain ⟨_, _, _, e⟩ := s.applyPaint_frame v
  rw [e]

@[simp] theorem State.applyRestyle_control : s.applyRestyle.control = s.control := by
  obtain ⟨_, _, e⟩ := s.applyRestyle_frame
  rw [e]

@[simp] theorem State.applyRepaint_control : s.applyRepaint.control = s.control := by
  unfold State.applyRepaint
  split <;> rfl

@[simp] theorem State.closeTops_control (n : Nat) : (State.closeTops n s).control = s.control := by
  obtain ⟨_, _, _, _, e⟩ := s.closeTops_frame n
  rw [e]

@[simp] theorem State.applyOrphan_control : s.applyOrphan.control = s.control := by
  obtain ⟨_, _, _, _, e⟩ := s.applyOrphan_frame
  rw [e]

@[simp] theorem State.writeBaseAll_control (ps : List (Nat × Cell)) : (s.writeBaseAll ps).control = s.control := by
  obtain ⟨_, _, e⟩ := s.writeBaseAll_frame ps
  rw [e]

@[simp] theorem State.applyBaseRun_mode (r : Run) : (s.applyBaseRun r).control.mode = s.control.mode := by
  obtain ⟨_, _, _, e⟩ := s.applyBaseRun_touches r
  rw [e]

@[simp] theorem State.applyTopRun_mode (r : Run) : (s.applyTopRun r).control.mode = s.control.mode := by
  obtain ⟨_, _, _, e⟩ := s.applyTopRun_touches r
  rw [e]

@[simp] theorem State.scanned_control (t : State) : (t.scanned s).control = t.control := rfl

variable {s}

theorem State.paintEnded_mode (h : s.control.mode ≠ .unwinding) (slot : Nat) :
    (s.paintEnded slot).control.mode = s.control.mode := by
  unfold State.paintEnded
  dsimp only
  rw [State.release_control, if_neg h, State.afterUnit_of_ne _ (by simpa using h)]
  simp

@[simp] theorem State.textHanded_mode (s : State) : s.textHanded.control.mode = s.control.mode := by
  unfold State.textHanded
  split
  · rfl
  · exact s.layoutTake_mode _
  · rfl

theorem State.textEnded_mode (h : s.control.mode ≠ .unwinding) : s.textEnded.control.mode = s.control.mode := by
  rw [State.textEnded_eq, State.afterUnit_of_ne _ (by simpa using h)]
  simp

theorem State.overlayFreed_control : s.overlayFreed.control = s.control := State.release_control _

theorem State.overlayEnded_mode (h : s.control.mode ≠ .unwinding) (op level : Nat) :
    (s.overlayEnded op level).control.mode = s.control.mode := by
  have same : ((s.overlayFreed.answerOverlay op level).orphanCheck).control.mode = s.control.mode := by
    rw [State.orphanCheck_control, State.answerOverlay_mode, State.overlayFreed_control]
  unfold State.overlayEnded
  rw [State.afterUnit_of_ne _ (by rwa [same]), same]

theorem State.endRepaint_mode (h : s.control.mode ≠ .unwinding) : s.endRepaint.control.mode = s.control.mode := by
  have again : ∀ (b : Bool) (r : State), (if b then r.needRepaint else r).control = r.control := by
    intro b r
    cases b
    · rfl
    · exact r.needRepaint_control
  unfold State.endRepaint
  dsimp only
  rw [State.afterUnit_of_ne _ (by rw [again, State.release_control]; simpa using h), again, State.release_control]
  simp

/-- The unit that holds the port ends; outside UNWINDING the painter stays in its state. -/
theorem State.endHeldUnit_mode (h : s.control.mode ≠ .unwinding) : s.endHeldUnit.control.mode = s.control.mode := by
  have ended : ∀ {u : State}, u.control.mode = s.control.mode → u.control.mode ≠ .unwinding := fun e => e ▸ h
  have paint : s.endPaint.control.mode = s.control.mode := by
    unfold State.endPaint
    split
    · rw [State.paintEnded_mode (ended (by simp))]; simp
    · rfl
  have restyle : s.endRestyle.control.mode = s.control.mode := by
    unfold State.endRestyle
    split
    · rw [State.paintEnded_mode (ended (by simp))]; simp
    · rfl
  have fill : s.endFill.control.mode = s.control.mode := by
    unfold State.endFill State.applyFill
    split
    · rw [State.textEnded_mode (ended (by simp))]; simp
    · rfl
  have baseRun : s.endBaseRun.control.mode = s.control.mode := by
    unfold State.endBaseRun
    split
    · rw [State.textEnded_mode (ended (by simp))]; simp
    · rfl
  have topRun : s.endTopRun.control.mode = s.control.mode := by
    unfold State.endTopRun
    split
    · rw [State.textEnded_mode (ended (by simp))]; simp
    · rfl
  have opened : s.endOpen.control.mode = s.control.mode := by
    unfold State.endOpen
    split
    · exact State.overlayEnded_mode (s := (s.applyOpen _ _).scanned s) h _ _
    · rfl
  have closed : s.endClose.control.mode = s.control.mode := by
    have top := s.closeTops_control 1
    unfold State.endClose
    split
    · exact (State.overlayEnded_mode (s := s.closeTop.scanned s) (ended (congrArg Control.mode top)) _ _).trans
        (congrArg Control.mode top)
    · rfl
  have closedAll : s.endCloseAll.control.mode = s.control.mode := by
    unfold State.endCloseAll State.closeAll
    split
    · rw [State.overlayEnded_mode (ended (by simp))]; simp
    · rfl
  have orphan : s.endOrphan.control.mode = s.control.mode := by
    unfold State.endOrphan
    split
    · rw [State.afterUnit_of_ne _ (ended (by rw [State.orphanCheck_control, State.overlayFreed_control]; simp)),
        State.orphanCheck_control, State.overlayFreed_control]
      simp
    · rfl
  have unwound : s.endUnwinding.control.mode = s.control.mode := by
    unfold State.endUnwinding State.closeAll
    split
    · rw [State.afterUnit_of_ne _ (ended (by rw [State.overlayFreed_control]; simp)), State.overlayFreed_control]
      simp
    · rfl
  unfold State.endHeldUnit
  (repeat' split) <;> first
    | rfl | exact paint | exact restyle | exact fill | exact baseRun | exact topRun | exact opened | exact closed
    | exact closedAll | exact orphan | exact unwound | exact State.endRepaint_mode h

end Mode

/-! ## Every command -/

theorem execLoadingComplete_changes (image : List Byte) (h : execLoadingComplete image s = .next t) :
    s.Changes t := by
  revert h
  unfold execLoadingComplete
  split
  · intro h; cases h
  · split
    · next hm =>
      have loading : s.endHeldUnit.control.mode = .loading := by
        rw [State.endHeldUnit_mode (by simp [hm]), hm]
      exact goOn_changes (s.endHeldUnit_changes.then (.clearing image loading)) t
    · exact goOn_changes (.refl _) t

theorem execReferenceStop_changes (h : execReferenceStop s = .next t) : s.Changes t := by
  revert h
  unfold execReferenceStop
  split
  · have stopped := (State.Change.once (.backup (s := s))).trans (State.beginInhibit_changes _)
    dsimp only
    split
    · next hr => exact goOn_changes (stopped.then (.elect (by simpa [State.isRunning] using hr))) t
    · exact goOn_changes stopped t
  · exact goOn_changes (.refl _) t

/-- Every command is a chain of small changes. -/
theorem exec_changes (c : Instr) (h : exec c s = .next t) : s.Changes t := by
  cases c with
  | carrierArrival lane | jabberCutoff lane | gapExpiry lane | transmitComplete lane | holdGapExpiry lane
  | collision lane | jamEnd lane | backoffExpiry lane | carrierDrop lane =>
    exact execLane_changes _ lane (by simp) h
  | frameEnd lane times rest => exact execFrameEnd_changes lane times rest h
  | quote => exact goOn_changes (s.dispatch_changes _ fun f u _ => takeQuote_changes u f) t h
  | presence => exact goOn_changes (s.dispatch_changes _ fun f u _ => takePresence_changes u f) t h
  | unusableFrame => exact goOn_changes (s.dispatch_changes _ fun _ u _ => u.countUnusable_changes) t h
  | bind | unbind | level => exact goOn_changes (s.layoutRow_changes _) t h
  | paintBase | paintTop => exact goOn_changes (s.dispatch_changes _ fun f u _ => takePaintFrame_changes u f) t h
  | overlayOpen | overlayClose | overlayCloseAll => exact goOn_changes (s.overlayRow_changes _) t h
  | bindFill => exact execUnit_changes s.endFill_changes h
  | baseRun => exact execUnit_changes s.endBaseRun_changes h
  | topRun => exact execUnit_changes s.endTopRun_changes h
  | openUnit => exact execUnit_changes s.endOpen_changes h
  | closeUnit => exact execUnit_changes s.endClose_changes h
  | closeAllUnit => exact execUnit_changes s.endCloseAll_changes h
  | orphanClose => exact execUnit_changes s.endOrphan_changes h
  | unwinding => exact execUnit_changes s.endUnwinding_changes h
  | paintCompletion => exact execUnit_changes s.endPaint_changes h
  | restyleCompletion => exact execUnit_changes s.endRestyle_changes h
  | crawlRepaint => exact execUnit_changes s.endRepaint_changes h
  | crawl =>
    exact goOn_changes (s.dispatch_changes _ fun f u _ => u.takeTick_changes.trans (State.takeCrawl_changes _ f)) t h
  | beacon => exact goOn_changes (s.dispatch_changes _ fun f u _ => u.takeBeacon_changes f) t h
  | status => exact goOn_changes (s.dispatch_changes _ fun f u _ => takeStatus_changes u f) t h
  | capture => exact goOn_changes (s.dispatch_changes _ fun f u _ => takeCapture_changes u f) t h
  | counters => exact goOn_changes (s.dispatch_changes _ fun f u _ => takeCounters_changes u f) t h
  | slotQuery => exact goOn_changes (s.dispatch_changes _ fun f u _ => takeSlot_changes u f) t h
  | restart running => exact goOn_changes (s.dispatch_changes _ fun f u _ => takeRestart_changes u running f) t h
  | badRequest => exact goOn_changes (s.dispatch_changes _ fun f u _ => takeBadRequest_changes u f) t h
  | frameStart => exact execFrameStart_changes h
  | activeStart => exact execActiveStart_changes h
  | silenceEvent station =>
    change (if 63 ≤ station then _ else goOn (s.deliverSilence station)) = _ at h
    split at h
    · cases h
    · exact goOn_changes (s.deliverSilence_changes station) t h
  | beaconLapse station =>
    change (if 63 ≤ station then _ else goOn (s.deliverLapse station)) = _ at h
    split at h
    · cases h
    · exact goOn_changes (s.deliverLapse_changes station) t h
  | highlightMove slot =>
    change (if 256 ≤ slot then _ else if s.control.mode = .held then goOn s else goOn (s.moveHighlight slot)) = _ at h
    split at h
    · cases h
    · split at h
      · exact goOn_changes (.refl _) t h
      · exact goOn_changes (s.moveHighlight_changes slot) t h
  | crawlStep =>
    change (if s.isRunning then goOn s.takeTick else goOn s) = _ at h
    split at h
    · exact goOn_changes s.takeTick_changes t h
    · exact goOn_changes (.refl _) t h
  | beaconDue => exact goOn_changes s.sendBeacon_changes t h
  | powerOn => exact execPowerOn_changes h
  | resetAssert => exact execResetAssert_changes h
  | heldEnd coldLow running => exact execHeldEnd_changes coldLow running h
  | loadingComplete image => exact execLoadingComplete_changes image h
  | clearingComplete =>
    change (if s.control.mode = .clearing then goOn s.enterRunning else goOn s) = _ at h
    split at h
    · exact goOn_changes s.enterRunning_changes t h
    · exact goOn_changes (.refl _) t h
  | referenceStop => exact execReferenceStop_changes h

/-- A law that every small change keeps, and that does not see the queue of commands, is kept by every step. -/
theorem step_keeps {P : State → Prop} (queue : ∀ (s : State) (q : List Instr), P s → P { s with pending := q })
    (keep : ∀ s t : State, P s → s.Change t → P t) (hs : P s) (h : step s = .next t) : P t := by
  unfold step at h
  split at h
  · cases h; exact hs
  · exact (exec_changes _ h).keep keep (queue s _ hs)

end Sys2Proof.Machine
end

section
/-!
PROOFS. The laws that every small change keeps: the canonical form of the stores, the ranges of the counts, the window of
R25, the slot records and the tape.
-/
namespace Sys2Proof.Machine

variable {s t : State}

/-! ## The canonical form -/

theorem clearedOwners_wf (row : Option Nat) : storeWf Owner.none (clearedOwners row) = true := by
  cases row
  · rfl
  · exact storeSetAll_wf _ _ _ rfl

theorem State.validate_banks (s : State) (img : List Byte) : (s.validate img).control.running = s.control.running ∧
    (s.validate img).control.snapshot = s.control.snapshot := by
  unfold State.validate
  dsimp only
  split <;> exact ⟨rfl, rfl⟩

theorem State.Canonical.closeTop (h : s.Canonical) : s.closeTop.Canonical := by
  unfold State.closeTop
  split
  · exact h
  · exact { h with cells := storeSetAll_wf _ _ _ h.cells, cover := storeMap_wf _ (fun k => if k = s.overlay.levels.length then 0 else k) _ h.cover }

theorem State.Change.canonical (h : s.Change t) (hs : s.Canonical) : t.Canonical := by
  cases h with
  | registers | ports | frameQueue | transmitQueue | request | timer | backup | held | loading => exact { hs with }
  | reading frame n hf _ => exact { hs with frame := hf hs.frame }
  | peer p e => exact { hs with peers := storeSet_wf _ _ _ _ hs.peers }
  | agePeers => exact { hs with peers := storeMap_wf _ _ _ hs.peers }
  | slots m hw _ => exact { hs with slots := hw hs.slots }
  | bind op kind rule => exact { hs with
      slots := storeSet_wf _ _ op.slot (boundSlot (s.slot op.slot) op kind rule) hs.slots
      owner := storeSetAll_wf _ _ _ hs.owner }
  | unbind => exact { hs with slots := storeSet_wf _ _ _ _ hs.slots, owner := storeSetAll_wf _ _ _ hs.owner }
  | cells c v hc hv => exact { hs with cells := hc hs.cells, save := hv hs.save }
  | openLevel =>
    exact { hs with
      save := storeSetAll_wf _ _ _ hs.save, cells := storeSetAll_wf _ _ _ hs.cells
      cover := storeSetAll_wf _ _ _ hs.cover }
  | closeTop => exact hs.closeTop
  | elect =>
    obtain ⟨_, _, e⟩ := s.elect_frame
    rw [e]
    exact { hs with }
  | place => exact { hs with tape := storeSet_wf _ _ _ _ hs.tape }
  | advance => exact { hs with tape := storeSet_wf _ _ _ _ hs.tape }
  | adopt => exact { hs with tape := storeMap_wf _ _ _ hs.tape }
  | count => exact { hs with running := storeSet_wf _ _ _ _ hs.running }
  | capture => exact { hs with snapshot := hs.running, running := rfl }
  | cold => exact { hs with peers := rfl, running := rfl, snapshot := rfl }
  | clearing image =>
    obtain ⟨running, snapshot⟩ := s.validate_banks image
    exact { hs with
      slots := rfl, cells := rfl, owner := clearedOwners_wf _, cover := rfl, tape := rfl
      running := running ▸ hs.running, snapshot := snapshot ▸ hs.snapshot }
  | unwinding => exact { hs with peers := rfl }
  | run =>
    obtain ⟨_, _, e⟩ := State.elect_frame { s with
      control := { s.control with mode := .running, coldCause := none }
      group := { s.group with countdown := s.control.config.interval } }
    rw [e]
    exact { hs with }

/-- Settles O5: every small change writes the stores by `storeSet`, `storeSetAll` and `storeMap`, which keep the form. -/
theorem stepKeepsCanonical : Obligations.StepKeepsCanonical := by
  unfold Obligations.StepKeepsCanonical
  exact fun s t hs h => step_keeps (fun _ _ hs => { hs with }) (fun _ _ hs h => h.canonical hs) hs h

/-- A law of canonical states that every small change keeps is kept by every step. -/
theorem step_keeps_canonical {P : State → Prop} (queue : ∀ (s : State) (q : List Instr), P s → P { s with pending := q })
    (keep : ∀ s t : State, s.Canonical → P s → s.Change t → P t) (hc : s.Canonical) (hs : P s) (h : step s = .next t) :
    P t :=
  (step_keeps (P := fun s => s.Canonical ∧ P s) (fun s q ⟨hc, hs⟩ => ⟨{ hc with }, queue s q hs⟩)
    (fun _ _ ⟨hc, hs⟩ h => ⟨h.canonical hc, keep _ _ hc hs h⟩) ⟨hc, hs⟩ h).2

/-! ## The window (R25) -/

theorem State.agePeers_peer (h : storeWf PeerEntry.cold s.peers = true) (p : Nat) : s.agePeers.peer p =
    (s.peer p).age s.staleTime s.control.config.group s.candidateLimit := by
  refine storeGet_map _ _ _ _ ?_ h
  simp [PeerEntry.age, PeerEntry.cold, PeerEntry.isLive]

theorem PeerEntry.age_unheard {stale group limit : Nat} {e : PeerEntry}
    (h : (e.age stale group limit).state ≠ .unheard) : e.state ≠ .unheard := by
  intro he
  exact h (by simp [PeerEntry.age, PeerEntry.isLive, he])

theorem State.Change.windowLaw (hc : s.Canonical) (hs : s.WindowLaw) (h : s.Change t) : t.WindowLaw := by
  have none : ∀ u : State, u.peers = [] → u.WindowLaw := by
    intro u hu p hp
    have : u.peer p = PeerEntry.cold := by simp [State.peer, hu]
    rw [this] at hp
    exact absurd rfl hp
  have same : ∀ u : State, u.peers = s.peers → u.WindowLaw := by
    intro u hu p
    have : u.peer p = s.peer p := by simp [State.peer, hu]
    rw [this]
    exact hs p
  cases h with
  | peer p e hm he =>
    intro q
    rw [State.peer_setPeer]
    split
    · next hq => exact fun hp => he.window (hs p) hp
    · exact hs q
  | agePeers hm =>
    intro p
    rw [State.agePeers_peer hc.peers]
    exact fun hp => hs p (PeerEntry.age_unheard hp)
  | cold | unwinding => exact none _ rfl
  | elect =>
    obtain ⟨_, _, e⟩ := s.elect_frame
    exact same _ (by rw [e])
  | run =>
    obtain ⟨_, _, e⟩ := State.elect_frame { s with
      control := { s.control with mode := .running, coldCause := .none }
      group := { s.group with countdown := s.control.config.interval } }
    exact same _ (by rw [e])
  | closeTop =>
    obtain ⟨_, _, _, _, e⟩ := s.closeTop_frame
    exact same _ (by rw [e])
  | _ => exact same _ rfl

/-- Settles O7: an accepted frame leaves a window that marks the high sequence (`PeerEntry.judge_accepted`), and nothing
else moves a window. -/
theorem stepKeepsWindowLaw : Obligations.StepKeepsWindowLaw := by
  unfold Obligations.StepKeepsWindowLaw
  exact fun s t hc hs h => step_keeps_canonical (fun _ _ hs => hs) (fun _ _ hc hs h => h.windowLaw hc hs) hc hs h

/-! ## The slot records -/

theorem Slot.cold_sound : Slot.cold.Sound :=
  ⟨fun _ => ⟨rfl, rfl, rfl, rfl, rfl, rfl, rfl⟩, fun h => by simp [Slot.cold] at h, fun _ => rfl, fun _ => rfl, fun _ => rfl⟩

/-- A slot that a BIND within its ranges leaves keeps the laws (R42, R43). -/
theorem Slot.boundSlot_sound {op : BindOp} {kind : FormatKind} {rule : ColourRule}
    (hr : bindRange op = some (kind, rule)) (r : Slot) : (boundSlot r op kind rule).Sound := by
  obtain ⟨-, -, -, -, -, hrow, -, hw1, hw16, hcol, -⟩ := bindRange_eq_some_iff.1 hr
  exact ⟨fun h => by simp [boundSlot] at h, fun _ => ⟨hw1, hw16, hrow, hcol⟩, fun _ => rfl, fun _ => rfl, fun _ => rfl⟩

theorem Slot.freedSlot_sound (r : Slot) : (freedSlot r).Sound :=
  ⟨fun _ => ⟨rfl, rfl, rfl, rfl, rfl, rfl, rfl⟩, fun h => by simp [freedSlot] at h, fun _ => rfl, fun _ => rfl, fun _ => rfl⟩

theorem State.Change.slotLaw (hc : s.Canonical) (hs : s.SlotLaw) (h : s.Change t) : t.SlotLaw := by
  have same : ∀ u : State, u.fields.slots = s.fields.slots → u.SlotLaw := by
    intro u hu n
    have : u.slot n = s.slot n := by simp [State.slot, hu]
    rw [this]
    exact hs n
  cases h with
  | slots m hw hm => exact fun n => (hm hc.slots n).sound (hs n)
  | bind op kind rule ht hr =>
    intro n
    change ((s.setSlot op.slot _).slot n).Sound
    rw [State.slot_setSlot]
    split
    · exact Slot.boundSlot_sound hr _
    · exact hs n
  | unbind m hb =>
    intro n
    rw [State.slot_setSlot]
    split
    · exact Slot.freedSlot_sound _
    · exact hs n
  | clearing => exact fun n => Slot.cold_sound
  | elect =>
    obtain ⟨_, _, e⟩ := s.elect_frame
    exact same _ (by rw [e])
  | run =>
    obtain ⟨_, _, e⟩ := State.elect_frame { s with
      control := { s.control with mode := .running, coldCause := none }
      group := { s.group with countdown := s.control.config.interval } }
    exact same _ (by rw [e])
  | closeTop =>
    obtain ⟨_, _, _, _, e⟩ := s.closeTop_frame
    exact same _ (by rw [e])
  | _ => exact same _ rfl

/-- Settles O8: each event makes of a slot what `Slot.Becomes` allows; a LAYOUT operation leaves the record of
`boundSlot` or `freedSlot`. -/
theorem stepKeepsSlotLaw : Obligations.StepKeepsSlotLaw := by
  unfold Obligations.StepKeepsSlotLaw
  exact fun s t hc hs h => step_keeps_canonical (fun _ _ hs => hs) (fun _ _ hc hs h => h.slotLaw hc hs) hc hs h

/-! ## The tape (R135) -/

/-- The entry at P is the only one that a crawl step puts out of reach. -/
theorem tape_reach_advance {index p : BitVec 16} (h : (index - p).toNat < 1024)
    (hp : index.toNat % 1024 ≠ p.toNat % 1024) : (index - (p + 1)).toNat < 1024 := by
  bv_omega

theorem State.Change.tapeLaw (hc : s.Canonical) (hs : s.TapeLaw) (h : s.Change t) : t.TapeLaw := by
  have same : ∀ u : State, u.crawl.tape = s.crawl.tape → u.crawl.p = s.crawl.p → u.TapeLaw := by
    intro u hu hp k
    have : u.tapeAt k = s.tapeAt k := by simp [State.tapeAt, hu]
    rw [this, hp]
    exact hs k
  cases h with
  | place k e hk hd =>
    intro j hv
    rw [State.tapeAt_setTape] at hv ⊢
    by_cases hj : j = k
    · simp only [hj, if_true]
      exact ⟨hk, hd⟩
    · simp only [hj, if_false] at hv ⊢
      exact hs j hv
  | advance k hk =>
    intro j hv
    change (State.tapeAt (s.setTape k { s.tapeAt k with valid := false }) j).valid = true at hv
    change (State.tapeAt (s.setTape k { s.tapeAt k with valid := false }) j).index.toNat % 1024 = j ∧
      ((State.tapeAt (s.setTape k { s.tapeAt k with valid := false }) j).index - (s.crawl.p + 1)).toNat < 1024
    rw [State.tapeAt_setTape] at hv ⊢
    by_cases hj : j = k
    · simp [hj] at hv
    · simp only [hj, if_false] at hv ⊢
      obtain ⟨h1, h2⟩ := hs j hv
      exact ⟨h1, tape_reach_advance h2 (by rw [h1, ← hk]; exact hj)⟩
  | adopt p =>
    intro j
    have read : storeGet TapeEntry.cold (storeMap TapeEntry.cold (TapeEntry.onAdopt p) s.crawl.tape) j =
        (s.tapeAt j).onAdopt p := storeGet_map _ _ _ _ (by simp [TapeEntry.onAdopt, TapeEntry.cold]) hc.tape
    simp only [State.tapeAt, read]
    unfold TapeEntry.onAdopt
    split
    · intro hv; simp at hv
    · next hn =>
      intro hv
      exact ⟨(hs j hv).1, by simpa [hv] using hn⟩
  | clearing => exact fun k hv => by simp [State.tapeAt, State.clearAll, TapeEntry.cold] at hv
  | elect =>
    obtain ⟨_, _, e⟩ := s.elect_frame
    exact same _ (by rw [e]) (by rw [e])
  | run =>
    obtain ⟨_, _, e⟩ := State.elect_frame { s with
      control := { s.control with mode := .running, coldCause := none }
      group := { s.group with countdown := s.control.config.interval } }
    exact same _ (by rw [e]) (by rw [e])
  | closeTop =>
    obtain ⟨_, _, _, _, e⟩ := s.closeTop_frame
    exact same _ (by rw [e]) (by rw [e])
  | _ => exact same _ rfl rfl

/-- Settles O11: a glyph is stored at its place and within reach, a crawl step takes away the one entry that leaves the
reach (`tape_reach_advance`), and an adoption takes away every entry out of reach of the new P. -/
theorem stepKeepsTapeLaw : Obligations.StepKeepsTapeLaw := by
  unfold Obligations.StepKeepsTapeLaw
  exact fun s t hc hs h => step_keeps_canonical (fun _ _ hs => hs) (fun _ _ hc hs h => h.tapeLaw hc hs) hc hs h

end Sys2Proof.Machine
end

section
/-!
PROOFS. The ranges of the counts and queues, and that the configuration in force stays legal.
-/
namespace Sys2Proof.Machine

variable {s t : State}

/-! ## The configuration image (R156) -/

theorem clampTo_snd_le (b : Bool) (legal v : Nat) : (clampTo b legal v).2 ≤ 1 := by
  unfold clampTo
  split <;> simp

theorem clampTo_le {b : Bool} {legal v : Nat} (h : b = false → v ≤ legal) : (clampTo b legal v).1 ≤ legal := by
  unfold clampTo
  split
  · exact le_rfl
  · next hb => exact h (by simpa using hb)

theorem clampBlink_legal {v : Nat} (h : v ≤ 255) :
    (2 ≤ (clampBlink v).1 ∧ (clampBlink v).1 ≤ 254 ∧ (clampBlink v).1 % 2 = 0) ∧ (clampBlink v).2 ≤ 1 := by
  unfold clampBlink
  (repeat' split) <;> (dsimp only; omega)

theorem clampTileCount_legal (v : Nat) :
    (1 ≤ (clampTileCount v).1 ∧ (clampTileCount v).1 ≤ 8) ∧ (clampTileCount v).2 ≤ 1 := by
  unfold clampTileCount
  (repeat' split) <;> (dsimp only; omega)

theorem clampTilePosition_legal {count : Nat} (h : 1 ≤ count) (v : Nat) :
    (clampTilePosition count v).1 < count ∧ (clampTilePosition count v).2 ≤ 1 := by
  unfold clampTilePosition
  (repeat' split) <;> (dsimp only; omega)

theorem clampCrawlStep_legal (v : Nat) :
    (1 ≤ (clampCrawlStep v).1 ∧ (clampCrawlStep v).1 ≤ 15) ∧ (clampCrawlStep v).2 ≤ 1 := by
  unfold clampCrawlStep
  (repeat' split) <;> (dsimp only; omega)

theorem byteAt_le (bs : List Byte) (i : Nat) : (byteAt bs i).toNat ≤ 255 := by
  have := (byteAt bs i).isLt
  omega

/-- Ten fields and eleven roles, each counted at most once (R156). -/
theorem imageFields_clamped (img : List Byte) : (imageFields img).2 ≤ 21 := by
  have roles : ((List.range 11).map (fun i =>
      (clampTo (decide (15 < (byteAt img (36 + i)).toNat)) 15 (byteAt img (36 + i)).toNat).2)).sum ≤ 11 := by
    refine (List.sum_le_card_nsmul _ 1 fun x hx => ?_).trans (by simp)
    obtain ⟨i, -, rfl⟩ := List.mem_map.1 hx
    exact clampTo_snd_le _ _ _
  have single := fun b legal v => clampTo_snd_le b legal v
  have blink := (clampBlink_legal (byteAt_le img 49)).2
  have tiles := clampTileCount_legal (byteAt img 54).toNat
  have position := (clampTilePosition_legal tiles.1.1 (byteAt img 53).toNat).2
  have step := (clampCrawlStep_legal (byteAt img 55).toNat).2
  have h1 := single (decide (63 < (byteAt img 1).toNat)) 63 (byteAt img 1).toNat
  have h2 := single (decide (14 < (byteAt img 2).toNat)) 14 (byteAt img 2).toNat
  have h3 := single (decide (1 < (byteAt img 3).toNat)) 1 (byteAt img 3).toNat
  have h4 := single (decide ((byteAt img 50).toNat = 0)) 1 (byteAt img 50).toNat
  have h5 := single (decide ((byteAt img 51).toNat < 8)) 8 (byteAt img 51).toNat
  have h6 := single (decide (47 < (byteAt img 52).toNat) && decide ((byteAt img 52).toNat ≠ 255)) 47
    (byteAt img 52).toNat
  have tilesCount := tiles.2
  simp only [imageFields]
  omega

/-- The fields of an accepted image are legal (R156). -/
theorem imageFields_legal (img : List Byte) : LegalConfiguration (imageFields img).1 where
  station := clampTo_le fun h => by simpa using h
  group := clampTo_le fun h => by simpa using h
  palette := by simp [imageFields]
  hold := byteAt_le img 47
  fade := byteAt_le img 48
  blink := (clampBlink_legal (byteAt_le img 49)).1
  staleUnits := by
    have := byteAt_le img 50
    simp only [imageFields, clampTo]
    split
    · simp
    · next h => simp at h ⊢; omega
  interval := by
    have := byteAt_le img 51
    simp only [imageFields, clampTo]
    split
    · simp
    · next h => simp at h ⊢; omega
  crawlRow := by
    intro row h
    have taken : ∀ v : Nat, (clampTo (decide (47 < v) && decide (v ≠ 255)) 47 v).1 ≠ 255 →
        (clampTo (decide (47 < v) && decide (v ≠ 255)) 47 v).1 ≤ 47 := by
      intro v hv
      by_cases hb : 47 < v ∧ v ≠ 255
      · simp [clampTo, hb.1, hb.2]
      · have : v ≤ 47 ∨ v = 255 := by omega
        rcases this with h | rfl
        · simp [clampTo, Nat.not_lt.2 h, h]
        · simp [clampTo] at hv
    simp only [imageFields] at h
    by_cases hn : (clampTo (decide (47 < (byteAt img 52).toNat) && decide ((byteAt img 52).toNat ≠ 255)) 47
        (byteAt img 52).toNat).1 = 255
    · rw [if_pos hn] at h
      cases h
    · rw [if_neg hn] at h
      cases h
      exact taken _ hn
  tileCount := (clampTileCount_legal _).1
  tilePosition := (clampTilePosition_legal (clampTileCount_legal _).1.1 _).1
  crawlStep := (clampCrawlStep_legal _).1

theorem Configuration.default_legal : LegalConfiguration Configuration.default := by
  constructor <;> simp [Configuration.default]

theorem State.validate_legal (s : State) (img : List Byte) : LegalConfiguration (s.validate img).control.config ∧
    (s.validate img).control.clamped ≤ 21 := by
  unfold State.validate
  dsimp only
  split
  · exact ⟨imageFields_legal img, imageFields_clamped img⟩
  · exact ⟨Configuration.default_legal, Nat.zero_le _⟩

/-! ## The ranges -/

theorem State.Bounded.fits (h : s.Bounded) (lane : Lane) : (s.lanePort lane).Fits :=
  ⟨h.attempts lane, h.hold lane, h.holdGap lane⟩

theorem State.Bounded.staleTime_pos (h : s.Bounded) : 0 < s.staleTime := by
  have := h.config.staleUnits.1
  simp only [State.staleTime]
  omega

theorem State.counter_bump_le (h : ∀ n, s.counter n ≤ Config.counterTop) (n a m : Nat) :
    (s.bump n a).counter m ≤ Config.counterTop := by
  rw [State.counter_bump]
  split
  · exact Nat.min_le_left _ _
  · exact h m

/-- The silence age counts up to the stale time, and the entry is SILENT there (R32). -/
theorem PeerEntry.age_silence {stale group limit : Nat} {e : PeerEntry} (hle : e.silenceAge ≤ stale)
    (hlt : e.state = .live → e.silenceAge < stale) :
    (e.age stale group limit).silenceAge ≤ stale ∧
      ((e.age stale group limit).state = .live → (e.age stale group limit).silenceAge < stale) := by
  by_cases hl : e.state = .live
  · have := hlt hl
    by_cases hs : e.silenceAge + 1 = stale
    · simp [PeerEntry.age, PeerEntry.isLive, hl, hs]
    · simp [PeerEntry.age, PeerEntry.isLive, hl, hs]
      omega
  · simp [PeerEntry.age, PeerEntry.isLive, hl, hle]

theorem State.Change.bounded (hc : s.Canonical) (hs : s.Bounded) (h : s.Change t) : t.Bounded := by
  cases h with
  | registers | cells | request | place | advance | adopt | openLevel =>
    exact { hs with }
  | reading frame n _ hn => exact { hs with read := hn hs.read }
  | ports a b ha hb =>
    have fits : ∀ lane, (State.lanePort { s with portA := a, portB := b } lane).Fits := by
      intro lane
      cases lane
      · exact ha (hs.fits .a)
      · exact hb (hs.fits .b)
    exact { hs with
      attempts := fun lane => (fits lane).1, hold := fun lane => (fits lane).2.1
      holdGap := fun lane => (fits lane).2.2 }
  | frameQueue q hq => exact { hs with frameQueue := hq hs.frameQueue }
  | transmitQueue q hf hq => exact { hs with transmitQueue := hf hs.transmitQueue, queued := hq hs.queued }
  | peer p e hm he =>
    have other : ∀ {P : PeerEntry → Prop}, P e → (∀ q, P (s.peer q)) → ∀ q, P ((s.setPeer p e).peer q) := by
      intro P hp hq q
      rw [State.peer_setPeer]
      split
      · exact hp
      · exact hq q
    refine { hs with
      laneAges := other (P := fun e => e.ageA ≤ 255 ∧ e.ageB ≤ 255) (he.ages (hs.laneAges p)) hs.laneAges
      beaconAge := other (P := fun e => e.beaconAge ≤ 65535) (he.beacon (hs.beaconAge p)) hs.beaconAge
      silenceAge := other (P := fun e => e.silenceAge ≤ s.staleTime ∧ (e.state = .live → e.silenceAge < s.staleTime))
        ?_ hs.silenceAge
      unheard := fun hn => absurd (hs.ran hm) hn }
    obtain ⟨h1, h2⟩ := hs.silenceAge p
    rcases he.silence with h0 | ⟨h0, hl⟩
    · rw [h0]; exact ⟨Nat.zero_le _, fun _ => hs.staleTime_pos⟩
    · rw [h0]; exact ⟨h1, fun he => h2 (hl he)⟩
  | agePeers hm =>
    have aged := s.agePeers_peer hc.peers
    refine { hs with
      laneAges := fun p => ?_, beaconAge := fun p => ?_, silenceAge := fun p => ?_
      unheard := fun hn => absurd (hs.ran hm) hn }
    · rw [aged]; exact ⟨Nat.min_le_left _ _, Nat.min_le_left _ _⟩
    · rw [aged]; exact Nat.min_le_left _ _
    · rw [aged]; exact PeerEntry.age_silence (hs.silenceAge p).1 (hs.silenceAge p).2
  | slots m hw hm =>
    refine { hs with highlight := fun n => ?_ }
    change (storeGet Slot.cold m n).highlight.remaining ≤ 255
    have hold := hs.config.hold
    have fade := hs.config.fade
    have before := hs.highlight n
    rcases (hm hc.slots n).highlight with h | h | h <;> omega
  | bind op kind rule _ _ =>
    refine { hs with highlight := fun m => ?_ }
    change ((s.setSlot op.slot _).slot m).highlight.remaining ≤ 255
    rw [State.slot_setSlot]
    split
    · exact Nat.zero_le _
    · exact hs.highlight m
  | unbind n hb =>
    refine { hs with highlight := fun m => ?_ }
    rw [State.slot_setSlot]
    split
    · exact Nat.zero_le _
    · exact hs.highlight m
  | closeTop =>
    obtain ⟨_, _, _, _, e⟩ := s.closeTop_frame
    rw [e]
    exact { hs with }
  | elect =>
    obtain ⟨_, _, e⟩ := s.elect_frame
    rw [e]
    exact { hs with }
  | timer phase corrections countdown hk hc =>
    exact { hs with corrections := hk hs.corrections, countdown := hc hs.config.interval.2 hs.countdown }
  | count n a => exact { hs with running := State.counter_bump_le hs.running n a }
  | capture => exact { hs with snapshot := hs.running, running := fun _ => Nat.zero_le _ }
  | backup => exact { hs with }
  | held => exact { hs with ran := nofun, loading := nofun }
  | cold cause hm =>
    exact { hs with
      running := fun _ => Nat.zero_le _, snapshot := fun _ => Nat.zero_le _
      laneAges := fun _ => ⟨le_rfl, le_rfl⟩, beaconAge := fun _ => le_rfl
      silenceAge := fun _ => ⟨Nat.zero_le _, nofun⟩
      countdown := Nat.zero_le _, corrections := Nat.zero_le _, clamped := Nat.zero_le _
      config := { hs.config with station := le_rfl }
      ran := fun h => by simp [hm] at h
      loading := fun h => by simp [hm] at h
      unheard := fun _ => rfl }
  | loading cause clock hn =>
    exact { hs with ran := nofun, loading := fun _ => by simp, unheard := fun _ => hs.unheard hn }
  | clearing image hm =>
    have unheard : s.peers = [] := hs.unheard (hs.loading hm)
    obtain ⟨running, snapshot⟩ := s.validate_banks image
    exact { hs with
      running := fun n => by have := hs.running n; rwa [State.counter, ← running] at this
      snapshot := fun n => by have := hs.snapshot n; rwa [State.snapCounter, ← snapshot] at this
      silenceAge := fun p => by
        change (s.peer p).silenceAge ≤ _ ∧ ((s.peer p).state = .live → _)
        rw [show s.peer p = PeerEntry.cold by simp [State.peer, unheard]]
        exact ⟨Nat.zero_le _, nofun⟩
      highlight := fun _ => Nat.zero_le _
      clamped := (s.validate_legal image).2
      config := (s.validate_legal image).1
      ran := nofun
      loading := nofun
      unheard := fun _ => unheard }
  | unwinding clock =>
    exact { hs with
      laneAges := fun _ => ⟨le_rfl, le_rfl⟩, beaconAge := fun _ => le_rfl
      silenceAge := fun _ => ⟨Nat.zero_le _, nofun⟩
      countdown := Nat.zero_le _
      ran := nofun, loading := nofun, unheard := fun _ => rfl }
  | run =>
    obtain ⟨_, _, e⟩ := State.elect_frame { s with
      control := { s.control with mode := .running, coldCause := none }
      group := { s.group with countdown := s.control.config.interval } }
    rw [e]
    exact { hs with
      countdown := hs.config.interval.2, ran := fun _ => rfl, loading := nofun
      unheard := fun h => absurd rfl h }

/-- Settles O6: each small change states the range that its operation keeps, and the configuration read is legal
(`imageFields_legal`). -/
theorem stepKeepsBounds : Obligations.StepKeepsBounds := by
  unfold Obligations.StepKeepsBounds
  exact fun s t hc hs h => step_keeps_canonical (fun _ _ hs => { hs with }) (fun _ _ hc hs h => h.bounded hc hs) hc hs h

end Sys2Proof.Machine
end

section
/-!
PROOFS. The owner map and the slots (R39, R99), the overlay stack (R113, R116), and the election with the timing state
(R126, R129, R130).
-/
namespace Sys2Proof.Machine

variable {s t : State}

/-! ## The owner map (R39, R99) -/

/-- The cells of a placement on the screen lie in its row. -/
theorem Placement.mem_cells_row {p : Placement} (h : p.col + p.width ≤ 128) {i : Nat} (hi : i ∈ p.cells) :
    i / 128 = p.row := by
  simp only [Placement.cells, List.mem_map, List.mem_range] at hi
  obtain ⟨x, hx, rfl⟩ := hi
  exact cellKey_div _ (by omega)

/-- What the tests of a BIND that passes say (R42). -/
theorem State.bindTest_done {op : BindOp} {kind : FormatKind} {rule : ColourRule} (h : s.bindTest op = .done)
    (hr : bindRange op = some (kind, rule)) :
    s.control.config.crawlRow ≠ some op.row ∧ s.cellsFree op ∧ (s.slot op.slot).bound = false := by
  classical
  rw [State.bindTest_inRange (bindRange_eq_some_iff.1 hr)] at h
  split at h
  · cases h
  · split at h
    · cases h
    · next hrow =>
      split at h
      · cases h
      · next hfree =>
        split at h
        · cases h
        · next hb => exact ⟨hrow, not_not.1 hfree, by simpa using hb⟩

theorem mem_crawlRow {row i : Nat} : i ∈ (List.range 128).map (cellKey row) ↔ i / 128 = row := by
  simp only [List.mem_map, List.mem_range, cellKey]
  exact ⟨fun ⟨x, hx, e⟩ => by omega, fun h => ⟨i % 128, by omega, by omega⟩⟩

/-- The owner map of CLEARING (R99, R134). -/
theorem storeGet_clearedOwners (row : Option Nat) (i : Nat) :
    storeGet Owner.none (clearedOwners row) i = if row = some (i / 128) then .crawl else .none := by
  cases row with
  | none => simp [clearedOwners]
  | some row =>
    have keys : (List.range 128).map (fun x => (cellKey row x, Owner.crawl)) =
        ((List.range 128).map (cellKey row)).map (fun i => (i, Owner.crawl)) := by simp
    rw [clearedOwners, keys, storeGet_setAll_map _ _ (fun _ => Owner.crawl)]
    simp [mem_crawlRow, eq_comm]

/-- A BIND that passes its tests takes cells that no other slot owns, none of them in the crawl row. -/
theorem State.OwnerLaw.bind (hs : s.OwnerLaw) {op : BindOp} {kind : FormatKind} {rule : ColourRule}
    (ht : s.bindTest op = .done) (hr : bindRange op = some (kind, rule)) :
    State.OwnerLaw ((s.setSlot op.slot (boundSlot (s.slot op.slot) op kind rule)).markOwner op.place.cells
      (.slot op.slot)) := by
  obtain ⟨hrow, hfree, hb⟩ := State.bindTest_done ht hr
  obtain ⟨-, -, -, -, -, -, -, -, -, hcol, -⟩ := bindRange_eq_some_iff.1 hr
  have slot : ∀ m, State.slot ((s.setSlot op.slot (boundSlot (s.slot op.slot) op kind rule)).markOwner op.place.cells
      (.slot op.slot)) m = if m = op.slot then boundSlot (s.slot op.slot) op kind rule else s.slot m :=
    fun m => State.slot_setSlot s op.slot m _
  have owner := State.ownerOf_markOwner (s.setSlot op.slot (boundSlot (s.slot op.slot) op kind rule)) op.place.cells
    (.slot op.slot)
  refine ⟨fun m hm i hi => ?_, fun i m h => ?_, fun i => ?_⟩
  · rw [owner]
    rw [slot] at hm hi
    by_cases e : m = op.slot
    · subst e
      rw [if_pos rfl] at hi
      exact if_pos hi
    · rw [if_neg e] at hm hi
      have hown := hs.owned m hm i hi
      rw [if_neg fun h => e (hfree i h m hown)]
      exact hown
  · rw [slot]
    rw [owner] at h
    split at h
    · next hi =>
      cases h
      simpa [boundSlot] using hi
    · obtain ⟨hm, hi⟩ := hs.owner i m h
      have e : m ≠ op.slot := fun e => by simp [e, hb] at hm
      rw [if_neg e]
      exact ⟨hm, hi⟩
  · rw [owner]
    split
    · next hi =>
      have : i / 128 = op.row := Placement.mem_cells_row hcol hi
      rw [this]
      exact ⟨nofun, fun h => absurd h hrow⟩
    · exact hs.crawl i

/-- An UNBIND gives the slot's cells back. -/
theorem State.OwnerLaw.unbind (hs : s.OwnerLaw) {n : Nat} (hb : (s.slot n).bound = true) :
    State.OwnerLaw ((s.markOwner (s.slot n).place.cells .none).setSlot n (freedSlot (s.slot n))) := by
  have slot := State.slot_setSlot (s.markOwner (s.slot n).place.cells .none) n
  have owner : ∀ i, State.ownerOf ((s.markOwner (s.slot n).place.cells .none).setSlot n (freedSlot (s.slot n))) i =
      if i ∈ (s.slot n).place.cells then .none else s.ownerOf i := State.ownerOf_markOwner s _ _
  refine ⟨fun m hm i hi => ?_, fun i m h => ?_, fun i => ?_⟩
  · rw [owner]
    rw [slot] at hm hi
    by_cases e : m = n
    · rw [if_pos e] at hm
      cases hm
    · rw [if_neg e] at hm hi
      have hown := hs.owned m hm i hi
      rw [if_neg fun h => e ?_]
      · exact hown
      · have := hs.owned n hb i h
        rw [hown] at this
        cases this
        rfl
  · rw [owner] at h
    split at h
    · cases h
    · next hi =>
      obtain ⟨hm, hj⟩ := hs.owner i m h
      have e : m ≠ n := fun e => hi (e ▸ hj)
      rw [slot, if_neg e]
      exact ⟨hm, hj⟩
  · rw [owner]
    split
    · next hi =>
      have hc := hs.crawl i
      rw [hs.owned n hb i hi] at hc
      exact ⟨nofun, fun h => nomatch hc.2 h⟩
    · exact hs.crawl i

theorem State.Change.ownerLaw (hc : s.Canonical) (hs : s.OwnerLaw) (h : s.Change t) : t.OwnerLaw := by
  cases h with
  | slots m _ hm =>
    have bound : ∀ n, (storeGet Slot.cold m n).bound = (s.slot n).bound := fun n => (hm hc.slots n).bound
    have place : ∀ n, (storeGet Slot.cold m n).place = (s.slot n).place := fun n => (hm hc.slots n).place
    refine ⟨fun n hb i hi => hs.owned n ?_ i ?_, fun i n h => ?_, hs.crawl⟩
    · rw [← bound]; exact hb
    · rw [← place]; exact hi
    · change (storeGet Slot.cold m n).bound = true ∧ i ∈ (storeGet Slot.cold m n).place.cells
      rw [bound, place]
      exact hs.owner i n h
  | bind op kind rule ht hr => exact hs.bind ht hr
  | unbind n hb => exact hs.unbind hb
  | clearing image hm =>
    have owner : ∀ i, storeGet Owner.none (clearedOwners (s.validate image).control.config.crawlRow) i = _ :=
      storeGet_clearedOwners _
    refine ⟨nofun, fun i n h => ?_, fun i => ?_⟩
    · have h : storeGet Owner.none (clearedOwners (s.validate image).control.config.crawlRow) i = .slot n := h
      rw [owner] at h
      split at h <;> cases h
    · change storeGet Owner.none (clearedOwners (s.validate image).control.config.crawlRow) i = .crawl ↔
        (s.validate image).control.config.crawlRow = some (i / 128)
      rw [owner]
      split <;> simp_all
  | elect =>
    obtain ⟨_, _, e⟩ := s.elect_frame
    rw [e]
    exact { hs with }
  | run =>
    obtain ⟨_, _, e⟩ := State.elect_frame { s with
      control := { s.control with mode := .running, coldCause := none }
      group := { s.group with countdown := s.control.config.interval } }
    rw [e]
    exact { hs with }
  | closeTop =>
    obtain ⟨_, _, _, _, e⟩ := s.closeTop_frame
    rw [e]
    exact { hs with }
  | _ => exact { hs with }

/-- Settles O9: only BIND, UNBIND and CLEARING move the owner map, and what else befalls a slot leaves its binding and
its place. -/
theorem stepKeepsOwnerLaw : Obligations.StepKeepsOwnerLaw := by
  unfold Obligations.StepKeepsOwnerLaw
  exact fun s t hc _ _ hs h =>
    step_keeps_canonical (fun _ _ hs => { hs with }) (fun _ _ hc hs h => h.ownerLaw hc hs) hc hs h

/-! ## The overlay stack (R113, R116) -/

theorem Level.mem_cells_iff {lv : Level} (hw : lv.left + lv.width ≤ 128) (i : Nat) : i ∈ lv.cells ↔ lv.contains i := by
  refine ⟨Level.contains_of_mem_cells hw, fun ⟨h1, h2, h3, h4⟩ => (lv.mem_cells i).2 ?_⟩
  exact ⟨i / 128 - lv.top, i % 128 - lv.left, by omega, by omega, by simp only [cellKey]; omega⟩

theorem savedLength_concat (levels : List Level) (lv : Level) :
    savedLength (levels ++ [lv]) = savedLength levels + lv.length := by
  simp [savedLength]

/-- What the tests of an OPEN that passes say of the stack (R115). -/
theorem State.openTest_done {op : OpenOp} (h : s.openTest op = .done) :
    s.overlay.levels.length < 8 ∧ op.InRange ∧ s.overlay.used + op.height * op.width ≤ 2048 := by
  have inRange := State.inRange_of_openTest h
  rcases Nat.lt_or_ge s.overlay.levels.length 8 with room | full
  · refine ⟨room, inRange, ?_⟩
    rw [State.openTest_inRange room inRange] at h
    split at h
    · cases h
    · split at h
      · cases h
      · omega
  · cases (State.openTest_stackFull full).symm.trans h

theorem State.OverlayLaw.openLevel (hs : s.OverlayLaw) {op : OpenOp} {requester : Nat}
    (h : s.overlay.request = some (.openLevel op requester)) :
    State.OverlayLaw { s.applyOpen op requester with
      overlay := { (s.applyOpen op requester).overlay with request := none } } := by
  obtain ⟨room, inRange, hfits⟩ := State.openTest_done (hs.inHand op requester h)
  obtain ⟨-, -, hh, -, hw, -, hrows, hcols, -⟩ := inRange
  have cover := State.coverOf_applyOpen (s := s) (op := op) (requester := requester)
  have mem := Level.mem_cells_iff (lv := op.level requester s.overlay.used) hcols
  refine ⟨?_, ?_, hfits, fun k lv hk => ?_, fun i hi lv hlv => ?_, fun i k hi => ?_, nofun⟩
  · change (s.overlay.levels ++ [_]).length ≤ 8
    simp only [List.length_append, List.length_singleton]
    omega
  · change s.overlay.used + op.height * op.width = savedLength (s.overlay.levels ++ [_])
    rw [savedLength_concat, hs.used]
    rfl
  · change (s.overlay.levels ++ [op.level requester s.overlay.used])[k]? = some lv at hk
    change _ ∧ _ ∧ _ ∧ _ ∧ _ ∧ lv.offset = savedLength ((s.overlay.levels ++ [_]).take k)
    rcases Nat.lt_trichotomy k s.overlay.levels.length with hlt | heq | hgt
    · rw [List.getElem?_append_left hlt] at hk
      rw [List.take_append_of_le_length hlt.le]
      exact hs.level k lv hk
    · subst heq
      simp only [List.getElem?_append_right (le_refl _), Nat.sub_self, List.getElem?_cons_zero, Option.some.injEq] at hk
      subst hk
      refine ⟨hh, hw, hrows, hcols, rfl, ?_⟩
      rw [List.take_append_of_le_length le_rfl, List.take_length]
      exact hs.used
    · rw [List.getElem?_eq_none (by simp; omega)] at hk
      cases hk
  · change State.coverOf (s.applyOpen op requester) i = 0 at hi
    change lv ∈ s.overlay.levels ++ [_] at hlv
    rw [cover] at hi
    split at hi
    · cases hi
    · next hn =>
      rcases List.mem_append.1 hlv with h | h
      · exact hs.uncovered i hi lv h
      · rw [List.mem_singleton.1 h, ← mem]
        exact fun h => hn ⟨h, hi⟩
  · change State.coverOf (s.applyOpen op requester) i = k + 1 at hi
    change (∃ lv, (s.overlay.levels ++ [op.level requester s.overlay.used])[k]? = some lv ∧ _) ∧
      ∀ j lv, j < k → (s.overlay.levels ++ [op.level requester s.overlay.used])[j]? = some lv → _
    rw [cover] at hi
    split at hi
    · next hn =>
      obtain rfl : s.overlay.levels.length = k := by omega
      refine ⟨⟨_, by simp, (mem i).1 hn.1⟩, fun j lv hj hlv => ?_⟩
      rw [List.getElem?_append_left hj] at hlv
      exact hs.uncovered i hn.2 lv (List.mem_of_getElem? hlv)
    · obtain ⟨⟨lv, hlv, hin⟩, hlow⟩ := hs.covered i k hi
      have hk := (List.getElem?_eq_some_iff.1 hlv).1
      refine ⟨⟨lv, by rw [List.getElem?_append_left hk]; exact hlv, hin⟩, fun j l hj hl => ?_⟩
      rw [List.getElem?_append_left (hj.trans hk)] at hl
      exact hlow j l hj hl

/-- What closing the top level leaves (R117). -/
theorem State.closeTop_concat {below : List Level} {lv : Level} (h : s.overlay.levels = below ++ [lv]) :
    s.closeTop = { s with
      overlay := { s.overlay with levels := below, used := s.overlay.used - lv.length }
      store := { s.store with
        cells := storeSetAll cellBlank s.store.cells (lv.cells.map (fun i => (i, s.saved (lv.recordOf i))))
        cover := storeMap 0 (fun k => if k = below.length + 1 then 0 else k) s.store.cover } } := by
  simp [State.closeTop, h]

theorem State.closeTop_nil (h : s.overlay.levels = []) : s.closeTop = s := by
  simp [State.closeTop, h]

theorem State.coverOf_closeTop (hc : storeWf 0 s.store.cover = true) {below : List Level} {lv : Level}
    (h : s.overlay.levels = below ++ [lv]) (i : Nat) :
    s.closeTop.coverOf i = if s.coverOf i = below.length + 1 then 0 else s.coverOf i := by
  rw [State.closeTop_concat h]
  exact storeGet_map 0 (fun k => if k = below.length + 1 then 0 else k) _ i (ite_self _) hc

theorem State.OverlayLaw.closeTop (hs : s.OverlayLaw) (hc : storeWf 0 s.store.cover = true) (hn : s.notOpening) :
    s.closeTop.OverlayLaw := by
  rcases List.eq_nil_or_concat s.overlay.levels with hnil | ⟨below, lv, hl⟩
  · rw [State.closeTop_nil hnil]
    exact hs
  · rw [List.concat_eq_append] at hl
    have cover := State.coverOf_closeTop hc hl
    have levels : s.closeTop.overlay.levels = below := by rw [State.closeTop_concat hl]
    have used : s.closeTop.overlay.used = s.overlay.used - lv.length := by rw [State.closeTop_concat hl]
    have total : s.overlay.used = savedLength below + lv.length := by rw [hs.used, hl, savedLength_concat]
    have depth := hs.depth
    have fits := hs.fits
    rw [hl, List.length_append, List.length_singleton] at depth
    refine ⟨by rw [levels]; omega, by rw [levels, used]; omega, by rw [used]; omega, fun k l hk => ?_,
      fun i hi l hlv => ?_, fun i k hi => ?_, fun op requester h => ?_⟩
    · rw [levels] at hk ⊢
      have hlt := (List.getElem?_eq_some_iff.1 hk).1
      have := hs.level k l (by rw [hl, List.getElem?_append_left hlt]; exact hk)
      rwa [hl, List.take_append_of_le_length hlt.le] at this
    · rw [levels] at hlv
      rw [cover] at hi
      split at hi
      · next hk =>
        obtain ⟨-, hlow⟩ := hs.covered i below.length hk
        obtain ⟨j, hj, e⟩ := List.getElem_of_mem hlv
        exact hlow j l hj (by rw [hl, List.getElem?_append_left hj, List.getElem?_eq_getElem hj, e])
      · exact hs.uncovered i hi l (by rw [hl]; exact List.mem_append_left _ hlv)
    · rw [levels]
      rw [cover] at hi
      split at hi
      · cases hi
      · next hk =>
        obtain ⟨⟨l, hlv, hin⟩, hlow⟩ := hs.covered i k hi
        have hlt := (List.getElem?_eq_some_iff.1 hlv).1
        rw [hl, List.length_append, List.length_singleton] at hlt
        have hlt : k < below.length := by omega
        rw [hl] at hlv hlow
        rw [List.getElem?_append_left hlt] at hlv
        refine ⟨⟨l, hlv, hin⟩, fun j m hj hm => hlow j m hj ?_⟩
        rw [List.getElem?_append_left (hj.trans hlt)]
        exact hm
    · rw [State.closeTop_concat hl] at h
      exact absurd h (hn op requester)

theorem State.Change.overlayLaw (hc : s.Canonical) (hs : s.OverlayLaw) (h : s.Change t) : t.OverlayLaw := by
  cases h with
  | openLevel op requester h => exact hs.openLevel h
  | closeTop hn => exact hs.closeTop hc.cover hn
  | request r hr =>
    refine { hs with inHand := fun op requester h => ?_ }
    have h : r = some (.openLevel op requester) := h
    rcases hr op requester h with same | passes
    · exact hs.inHand op requester (same ▸ h)
    · exact passes
  | clearing image =>
    exact { depth := Nat.zero_le _, used := rfl, fits := Nat.zero_le _
            level := fun k lv h => by simp [State.clearAll] at h
            uncovered := fun i _ lv h => by simp [State.clearAll] at h
            covered := fun i k h => by simp [State.clearAll, State.coverOf] at h
            inHand := nofun }
  | elect =>
    obtain ⟨_, _, e⟩ := s.elect_frame
    rw [e]
    exact { hs with }
  | run =>
    obtain ⟨_, _, e⟩ := State.elect_frame { s with
      control := { s.control with mode := .running, coldCause := none }
      group := { s.group with countdown := s.control.config.interval } }
    rw [e]
    exact { hs with }
  | _ => exact { hs with }

/-- Settles O10: an OPEN covers what no level covered and saves above all that is saved; a close takes away the top
level's cover, which no lower level shares. -/
theorem stepKeepsOverlayLaw : Obligations.StepKeepsOverlayLaw := by
  unfold Obligations.StepKeepsOverlayLaw
  exact fun s t hc hs h =>
    step_keeps_canonical (fun _ _ hs => { hs with }) (fun _ _ hc hs h => h.overlayLaw hc hs) hc hs h

/-! ## The election (R129, R130) -/

/-- The station is in the candidate set (R129). -/
def State.isCandidate (s : State) (q : Nat) : Prop := q < 63 ∧
  ((s.peer q).painter = true ∧ (s.peer q).beaconGroup = s.control.config.group ∧
      (s.peer q).beaconAge < 3 * s.control.config.interval ∨
    q = s.control.config.station ∧ s.mayTransmit = true)

theorem State.mem_candidates (s : State) (q : Nat) : q ∈ s.candidates ↔ s.isCandidate q := by
  simp only [State.candidates, State.isCandidate, PeerEntry.candidate, List.mem_filter,
    List.mem_range, Bool.or_eq_true, Bool.and_eq_true, decide_eq_true_eq, and_assoc]
  exact Iff.rfl

theorem State.mayTransmit_iff (s : State) : s.mayTransmit = true ↔
    s.control.valid = true ∧ s.control.config.station ≠ 63 ∧ s.control.clock = .reference := by
  cases hc : s.control.clock <;> simp [State.mayTransmit, State.inhibited, hc]

/-- With no candidate the painter is FREE (R130). -/
theorem State.elect_free (h : ∀ q, ¬ s.isCandidate q) :
    s.elect = { s with group := { s.group with timing := .free, reference := 63 } } := by
  have : s.candidates = [] := List.eq_nil_iff_forall_not_mem.2 fun q hq => h q ((s.mem_candidates q).1 hq)
  simp [State.elect, this]

/-- The lowest-numbered candidate is the reference (R130). -/
theorem State.elect_lowest {q : Nat} (h : s.isCandidate q) (least : ∀ r, r < q → ¬ s.isCandidate r) :
    s.elect = { s with group := { s.group with
      timing := if q = s.control.config.station then .leading else .following, reference := q } } := by
  have sorted : s.candidates.Pairwise (· < ·) := List.Pairwise.filter _ List.pairwise_lt_range
  have hq := (s.mem_candidates q).2 h
  have head : s.candidates.head? = some q := by
    cases hl : s.candidates with
    | nil => simp [hl] at hq
    | cons r rest =>
      rw [hl] at hq sorted
      rcases List.mem_cons.1 hq with rfl | hr
      · rfl
      · refine absurd ((s.mem_candidates r).1 (by simp [hl])) (least r ?_)
        exact (List.pairwise_cons.1 sorted).1 q hr
  simp [State.elect, head]

/-- There is a lowest candidate, or none. -/
theorem State.candidate_cases (s : State) :
    (∀ q, ¬ s.isCandidate q) ∨ ∃ q, s.isCandidate q ∧ ∀ r, r < q → ¬ s.isCandidate r := by
  classical
  by_cases h : ∃ q, s.isCandidate q
  · exact .inr ⟨Nat.find h, Nat.find_spec h, fun r hr => Nat.find_min h hr⟩
  · exact .inl (not_exists.1 h)

/-- An election of a RUNNING painter meets the law of R130. -/
theorem State.elect_referenceLaw (hm : s.control.mode = .running) (hcold : s.control.coldCause = none)
    (hst : s.control.config.station ≤ 63) (hdef : s.control.valid = false → s.control.config.station = 63) :
    s.elect.ReferenceLaw := by
  have own : s.mayTransmit = true → s.isCandidate s.control.config.station := fun hmay =>
    ⟨lt_of_le_of_ne hst ((s.mayTransmit_iff.1 hmay).2.1), .inr ⟨rfl, hmay⟩⟩
  rcases s.candidate_cases with hnone | ⟨q, hq, least⟩
  · rw [State.elect_free hnone]
    exact { free := fun _ => rfl, leading := nofun, following := nofun
            neverFree := fun _ hmay => absurd (own hmay) (hnone _)
            station := hst, defaulted := hdef, resetting := by simp [hm], cold := fun h => absurd hcold h
            ran := fun _ => hcold }
  · rw [State.elect_lowest hq least]
    refine { free := fun h => ?_, leading := fun h => ?_, following := fun h => ⟨hq.1, ?_⟩, neverFree := fun _ _ h => ?_
             station := hst, defaulted := hdef, resetting := by simp [hm], cold := fun h => absurd hcold h
             ran := fun _ => hcold }
    · dsimp only at h
      split at h <;> cases h
    · dsimp only at h
      split at h
      · next e => exact e
      · cases h
    · dsimp only at h
      split at h
      · cases h
      · next e =>
        by_cases hmay : s.mayTransmit = true
        · refine .inl (lt_of_le_of_ne ?_ e)
          exact Nat.le_of_not_lt fun hlt => least _ hlt (own hmay)
        · rw [State.mayTransmit_iff] at hmay
          cases hv : s.control.valid with
          | false => exact .inr (.inl (hdef hv))
          | true =>
            cases hk : s.control.clock with
            | backup => exact .inr (.inr rfl)
            | reference => exact .inr (.inl (by simpa [hv, hk] using hmay))
    · dsimp only at h
      split at h <;> cases h

theorem State.validate_station (s : State) (img : List Byte) :
    (s.validate img).control.config.station ≤ 63 ∧
      ((s.validate img).control.valid = false → (s.validate img).control.config.station = 63) := by
  refine ⟨(s.validate_legal img).1.station, ?_⟩
  unfold State.validate
  dsimp only
  split
  · nofun
  · exact fun _ => rfl

theorem State.Change.referenceLaw (hs : s.ReferenceLaw) (h : s.Change t) : t.ReferenceLaw := by
  cases h with
  | elect hm => exact State.elect_referenceLaw hm (hs.ran hm) hs.station hs.defaulted
  | run => exact State.elect_referenceLaw rfl rfl hs.station hs.defaulted
  | backup =>
    have stopped : State.mayTransmit { s with control := { s.control with clock := .backup } } = false := by
      simp [State.mayTransmit, State.inhibited]
    exact { hs with
      following := fun h => ⟨(hs.following h).1, .inr (.inr rfl)⟩
      neverFree := fun _ h => by simp [stopped] at h }
  | held => exact { hs with neverFree := nofun, resetting := by simp, ran := nofun }
  | cold cause hm =>
    exact { free := fun _ => rfl, leading := nofun, following := nofun, neverFree := by simp [hm], station := le_rfl
            defaulted := fun _ => rfl, resetting := fun _ => rfl, cold := fun _ => rfl, ran := by simp [hm] }
  | loading cause clock hn =>
    exact { hs with
      following := fun h => by have := hs.cold hn; simp_all
      neverFree := nofun, resetting := fun _ => hs.cold hn, cold := fun _ => hs.cold hn, ran := nofun }
  | clearing image hm =>
    have free : s.group.timing = .free := hs.resetting (.inl hm)
    exact { free := fun _ => hs.free free
            leading := fun h => by cases free.symm.trans h
            following := fun h => by cases free.symm.trans h
            neverFree := nofun
            station := (s.validate_station image).1, defaulted := (s.validate_station image).2
            resetting := fun _ => free, cold := fun _ => free, ran := nofun }
  | unwinding clock =>
    exact { free := fun _ => rfl, leading := nofun, following := nofun, neverFree := nofun, station := hs.station
            defaulted := hs.defaulted, resetting := fun _ => rfl, cold := fun _ => rfl, ran := nofun }
  | closeTop =>
    obtain ⟨_, _, _, _, e⟩ := s.closeTop_frame
    rw [e]
    exact { hs with }
  | _ => exact { hs with }

/-- Settles O12: an election meets the law whatever stood before (`State.elect_referenceLaw`), and every reset leaves the
group timer FREE. -/
theorem stepKeepsReferenceLaw : Obligations.StepKeepsReferenceLaw := by
  unfold Obligations.StepKeepsReferenceLaw
  exact fun s t hs h => step_keeps (fun _ _ hs => { hs with }) (fun _ _ hs h => h.referenceLaw hs) hs h

end Sys2Proof.Machine
end

section
/-!
PROOFS. What a command does to the work of the painter (the write port, the requests, the paint unit, the slots and the
peers), said as one chain of small acts (`State.Course`), and the laws of R53, R78 and R101 under each act. An act that
may offer the paint unit work opens the chain (`true`), and the paint unit's taking of work closes it again (`false`).
-/
namespace Sys2Proof.Machine

/-! ## The acts -/

/-- The port, and the requests that stand at it, are the same. -/
structure State.SameRequests (s t : State) : Prop where
  mode : t.control.mode = s.control.mode
  port : t.port = s.port
  request : t.overlay.request = s.overlay.request
  depth : t.overlay.levels.length = s.overlay.levels.length
  crawl : t.crawl.request = s.crawl.request
  paint : t.paint = s.paint
  text : t.text = s.text

/-- What the laws of R53, R78 and R101 read of the painter is the same; outside RUNNING a free dispatcher stays free. -/
structure State.SameWork (s t : State) : Prop extends s.SameRequests t where
  slots : t.fields.slots = s.fields.slots
  peers : t.peers = s.peers
  hand : s.control.mode ≠ .running → s.hand = .idle → t.hand = .idle

/-- A slot is left with its shown value and stale mark, or shows none; it may be offered for a paint or restyle. -/
def Slot.KeepsShown (r r' : Slot) : Prop :=
  ∀ v, r'.bound = true → r'.shown = some v → r.bound = true ∧ r.shown = some v ∧ r'.stale = r.stale

/-- A slot is offered for no work that it was not offered for. -/
structure Slot.OffersNoMore (r r' : Slot) : Prop where
  restyle : r'.bound = true → r'.restyle = true → r.bound = true ∧ r.restyle = true
  paint : r'.bound = true → 1 ≤ r'.priority → r'.pending ≠ none → r.bound = true ∧ 1 ≤ r.priority ∧ r.pending ≠ none

/-- The unit of `w` has ended: its request is gone, and of the overlay unit the levels may have changed. -/
structure State.Frees (s : State) (w : Writer) (t : State) : Prop where
  mode : t.control.mode = s.control.mode
  gone : t.outstanding w = false
  others : ∀ v, v ≠ w → t.outstanding v = s.outstanding v
  paint : t.paint = s.paint
  slots : t.fields.slots = s.fields.slots
  peers : t.peers = s.peers
  hand : t.hand = s.hand

/-- What waits is withdrawn; the granted unit is left with what it decided (R152). -/
structure State.Withdraws (s t : State) : Prop where
  port : t.port = s.port
  waiting : ∀ w, s.port.holder ≠ some w → t.outstanding w = false
  granted : ∀ w, s.port.holder = some w → t.outstanding w = s.outstanding w
  request : s.port.holder = some .overlay → t.overlay.request = s.overlay.request
  depth : t.overlay.levels.length = s.overlay.levels.length
  hand : t.hand = .idle

/-- The slot of a paint or restyle that the paint unit has in hand. -/
def PaintOp.slotOf : PaintOp → Nat
  | .paint n _ _ _ _ => n
  | .restyle n _ => n

/-- The port is freed at the end of the paint unit's unit on a slot, to which R54's changes are then made in a warm
reset (R89). -/
def State.paintFreed (s : State) (n : Nat) : State :=
  let s1 := ({ s with paint := none }).release
  if s1.control.mode = .unwinding then s1.setSlot n (s1.slot n).onWarmReset else s1

/-- One small act that offers the paint unit no work. Only with `unit` may it end the unit that holds the port. -/
inductive State.Act (unit : Bool) (s : State) : State → Prop
  | quiet (t : State) (h : s.SameWork t) : State.Act unit s t
  | slots (m : Store Slot) (hw : storeWf Slot.cold s.fields.slots = true → storeWf Slot.cold m = true)
      (none : s.control.mode = .clearing → s.hand = .idle → s.fields.slots = [] → m = [])
      (h : storeWf Slot.cold s.fields.slots = true → ∀ n, (s.slot n).KeepsShown (storeGet Slot.cold m n) ∧
        (s.slot n).OffersNoMore (storeGet Slot.cold m n)) :
      State.Act unit s { s with fields := { s.fields with slots := m } }
  | peer (p : Nat) (e : PeerEntry) (hm : s.control.mode = .running) (state : e.state = .live ↔ (s.peer p).state = .live)
      (due : e.silenceDue = (s.peer p).silenceDue) : State.Act unit s (s.setPeer p e)
  | agePeers (hm : s.control.mode = .running) : State.Act unit s s.agePeers
  | presentText (u : TextUnit)
      (hm : s.control.mode = .running ∨ s.control.mode = .unwinding ∨ s.port.holder = none) :
      State.Act unit s (State.present { s with text := some u } .text)
  | presentCrawl (hm : s.control.mode = .running) :
      State.Act unit s (State.present { s with crawl := { s.crawl with request := true } } .crawl)
  | presentOverlay (r : OverlayRequest) (hm : s.control.mode = .running ∨ s.control.mode = .unwinding)
      (free : s.overlay.request = none) :
      State.Act unit s (State.present { s with overlay := { s.overlay with request := some r } } .overlay)
  | presentPaint (n : Nat) (r : Slot) (o : PaintOp) (hm : s.control.mode = .running) (free : s.paint = none)
      (h : (s.slot n).KeepsShown r) : State.Act unit s (State.present { s.setSlot n r with paint := some o } .paint)
  | finish (w : Writer) (t : State) (hu : unit = true) (hw : w ≠ .paint) (held : s.port.holder = some w) (h : s.Frees w t) :
      State.Act unit s t.release
  /-- HELD is entered, or a cold reset's values are set in it; the peers kept or emptied. -/
  | stop (t : State) (hm : t.control.mode = .held) (h : s.Withdraws t)
      (slots : t.fields.slots = s.fields.slots) (peers : t.peers = s.peers ∨ t.peers = []) : State.Act unit s t
  /-- LOADING is entered from HELD (R152). -/
  | load (t : State) (was : s.control.mode = .held) (hm : t.control.mode = .loading)
      (h : SameWork { s with control := { s.control with mode := .loading } } t) : State.Act unit s t
  /-- A warm reset begins (R154). -/
  | unwind (t : State) (hm : t.control.mode = .unwinding) (h : s.Withdraws t) (peers : t.peers = [])
      (left : s.port.holder = some .paint → t.paint = s.paint)
      (shown : storeWf Slot.cold s.fields.slots = true → ∀ n, (t.slot n).bound = true → (t.slot n).shown.isSome = true →
        (t.slot n).stale = true ∨ s.leftOut n)
      (hw : storeWf Slot.cold s.fields.slots = true → storeWf Slot.cold t.fields.slots = true) : State.Act unit s t
  /-- CLEARING begins (R153). -/
  | clear (t : State) (hu : unit = true) (hm : t.control.mode = .clearing) (port : t.port = { holder := none, decided := .standing })
      (waiting : ∀ w, t.outstanding w = false) (slots : t.fields.slots = []) (peers : t.peers = s.peers)
      (hand : s.control.mode ≠ .running) (same : t.hand = s.hand) : State.Act unit s t

/-- One act that may offer the paint unit work. Only with `unit` may it end the unit that holds the port. -/
inductive State.Opens (unit : Bool) (s : State) : State → Prop
  | offer (m : Store Slot) (hw : storeWf Slot.cold s.fields.slots = true → storeWf Slot.cold m = true)
      (none : s.control.mode = .clearing → s.hand = .idle → s.fields.slots = [] → m = [])
      (h : storeWf Slot.cold s.fields.slots = true → ∀ n, (s.slot n).KeepsShown (storeGet Slot.cold m n)) :
      State.Opens unit s { s with fields := { s.fields with slots := m } }
  | silence (p : Nat) (hm : s.control.mode = .running) (due : (s.peer p).silenceDue = true) :
      State.Opens unit s ((s.setPeer p { s.peer p with silenceDue := false }).mapSlots (Slot.onSilence p))
  | returned (p : Nat) (e : PeerEntry) (hm : s.control.mode = .running) (live : e.state = .live)
      (due : e.silenceDue = false) :
      State.Opens unit s ((s.setPeer p e).mapSlots (Slot.onReturn p))
  | finishPaint (o : PaintOp) (hu : unit = true) (ho : s.paint = some o) (held : s.port.holder = some .paint) :
      State.Opens unit s (s.paintFreed o.slotOf)
  /-- RUNNING is entered. -/
  | enter (t : State) (hm : t.control.mode = .running)
      (h : SameWork { s with control := { s.control with mode := .running } } t)
      (from_ : s.control.mode = .clearing ∨ s.control.mode = .unwinding ∧ s.port.holder = none) : State.Opens unit s t

/-- A chain of acts; `true` while work may have been offered since the paint unit last took some. -/
inductive State.Course (unit : Bool) (s : State) : Bool → State → Prop
  | start : State.Course unit s false s
  | act {b : Bool} {t u : State} : State.Course unit s b t → t.Act unit u → State.Course unit s b u
  | opening {b : Bool} {t u : State} : State.Course unit s b t → t.Opens unit u → State.Course unit s true u
  | take {b : Bool} {t : State} : State.Course unit s b t → State.Course unit s false t.paintTake

variable {s t u : State} {unit : Bool}

theorem State.SameWork.refl (s : State) : s.SameWork s := ⟨⟨rfl, rfl, rfl, rfl, rfl, rfl, rfl⟩, rfl, rfl, fun _ => id⟩

theorem Slot.KeepsShown.refl (r : Slot) : r.KeepsShown r := fun _ hb hs => ⟨hb, hs, rfl⟩

theorem Slot.OffersNoMore.refl (r : Slot) : r.OffersNoMore r := ⟨fun hb hr => ⟨hb, hr⟩, fun hb hp hv => ⟨hb, hp, hv⟩⟩

theorem State.SameWork.run (h : s.SameWork t) : s.Course unit false t := .act .start (.quiet t h)

theorem State.Act.run (h : s.Act unit t) : s.Course unit false t := .act .start h

theorem State.Course.weaken {b : Bool} (h : s.Course unit b t) : s.Course unit true t :=
  .opening h (.offer t.fields.slots id (fun _ _ => id) fun _ _ => .refl _)

theorem State.Course.trans {b c : Bool} (h : s.Course unit b t) (h' : t.Course unit c u) : s.Course unit (b || c) u := by
  induction h' with
  | start => simpa using h
  | act _ a ih => exact .act ih a
  | opening _ o ih => simpa using State.Course.opening ih o
  | take _ ih =>
    cases b
    · exact .take ih
    · exact (State.Course.take ih).weaken

/-- Two settled chains in a row. -/
theorem State.Course.then {b : Bool} (h : s.Course unit b t) (h' : t.Course unit false u) : s.Course unit b u := by
  simpa using h.trans h'

/-! ## The law of R101 -/

theorem State.outstanding_congr {t : State} (ho : t.overlay.request = s.overlay.request)
    (hc : t.crawl.request = s.crawl.request) (hp : t.paint = s.paint) (ht : t.text = s.text) (w : Writer) :
    t.outstanding w = s.outstanding w := by
  cases w
  · exact congrArg Option.isSome ho
  · exact hc
  · exact congrArg Option.isSome hp
  · exact congrArg Option.isSome ht

theorem State.nextWaiting_none (h : s.nextWaiting = none) (w : Writer) : s.outstanding w = false := by
  have := List.find?_eq_none.1 h w (by cases w <;> simp)
  simpa using this

theorem State.nextWaiting_some {w : Writer} (h : s.nextWaiting = some w) : s.outstanding w = true :=
  List.find?_some h

theorem State.present_outstanding (s : State) (w v : Writer) : (s.present w).outstanding v = s.outstanding v := by
  obtain ⟨_, _, e⟩ := s.present_slots_frame w
  rw [e]
  exact State.outstanding_congr rfl rfl rfl rfl v

theorem State.release_outstanding (s : State) (v : Writer) : s.release.outstanding v = s.outstanding v := by
  obtain ⟨_, _, e⟩ := s.release_frame
  rw [e]
  exact State.outstanding_congr rfl rfl rfl rfl v

/-- What a grant decides fits the unit. -/
theorem State.grant_decisionFits (w : Writer) (h : s.outstanding w = true) (free : s.port.decided = .standing) :
    (s.grant w).decisionFits := by
  cases w with
  | overlay =>
    unfold State.decisionFits
    rw [State.grant_holder, State.grant_overlay]
    change (_ → ∃ k, _ ∧ (State.grantOverlay { s with port := { s.port with holder := some .overlay } }).port.decided = _) ∧
      (_ → (State.grantOverlay { s with port := { s.port with holder := some .overlay } }).port.decided = _)
    unfold State.grantOverlay
    split
    · next e =>
      refine ⟨fun _ => ⟨_, (List.takeWhile_sublist _).length_le.trans ?_, rfl⟩, fun hne => absurd e hne⟩
      rw [List.length_reverse]
    · next hne => exact ⟨fun e => absurd e hne, fun _ => free⟩
  | crawl => exact ⟨_, rfl, by simp⟩
  | paint =>
    unfold State.decisionFits
    rw [State.grant_holder]
    change (State.grantPaint { s with port := { s.port with holder := some .paint } }).port.decided = _ ∨
      ∃ r, (State.grantPaint { s with port := { s.port with holder := some .paint } }).port.decided = _
    unfold State.grantPaint
    split
    · dsimp only
      split
      · exact .inr ⟨_, rfl⟩
      · exact .inl rfl
    · dsimp only
      split
      · exact .inr ⟨_, rfl⟩
      · exact .inl rfl
    · next hn =>
      have hn : s.paint = none := hn
      simp [State.outstanding, hn] at h
  | text => exact free

theorem State.decisionFits_congr (hp : t.port = s.port) (hr : s.port.holder = some .overlay →
    t.overlay.request = s.overlay.request ∧ t.overlay.levels.length = s.overlay.levels.length) (h : s.decisionFits) :
    t.decisionFits := by
  unfold State.decisionFits at h ⊢
  rw [hp]
  split at h
  · exact h
  · exact h
  · next hw =>
    obtain ⟨e, d⟩ := hr hw
    rw [e, d]
    exact h
  · exact h
  · exact h

theorem State.ArbiterLaw.of_sameRequests (hs : s.ArbiterLaw) (h : s.SameRequests t) : t.ArbiterLaw := by
  have same : ∀ w, t.outstanding w = s.outstanding w :=
    State.outstanding_congr h.request h.crawl h.paint h.text
  exact { holder := fun w hw => by rw [same]; exact hs.holder w (by rw [← h.port]; exact hw)
          idle := fun hn w => by rw [same]; exact hs.idle (by rw [← h.port]; exact hn) w
          alone := fun h1 h2 w hw => by
            rw [h.port]
            rw [h.mode] at h1 h2
            exact hs.alone h1 h2 w (by rw [← same]; exact hw)
          decided := State.decisionFits_congr h.port (fun _ => ⟨h.request, h.depth⟩) hs.decided }

/-- A request that becomes outstanding and is presented, the port's holder not seeing it. -/
theorem State.ArbiterLaw.present (hs : s.ArbiterLaw) {w : Writer} (mode : t.control.mode = .running ∨
      t.control.mode = .unwinding ∨ s.port.holder = none) (port : t.port = s.port) (now : t.outstanding w = true)
    (others : ∀ v, v ≠ w → t.outstanding v = s.outstanding v)
    (request : s.port.holder = some .overlay → t.overlay.request = s.overlay.request)
    (depth : t.overlay.levels.length = s.overlay.levels.length) : (t.present w).ArbiterLaw := by
  have out := State.present_outstanding t w
  have mode' : (t.present w).control.mode = t.control.mode := by
    obtain ⟨_, _, e⟩ := t.present_slots_frame w
    rw [e]
  refine { holder := fun v hv => ?_, idle := fun hn => ?_, alone := fun h1 h2 v hv => ?_
           decided := ?_ }
  · rw [out]
    by_cases e : v = w
    · exact e ▸ now
    · rw [State.present_holder, port] at hv
      rw [others v e]
      refine hs.holder v ?_
      cases hh : s.port.holder with
      | none =>
        simp only [hh, Option.getD_none, Option.some.injEq] at hv
        exact absurd hv.symm e
      | some x => simpa [hh] using hv
  · rw [State.present_holder] at hn
    cases hn
  · rw [mode'] at h1 h2
    have free : s.port.holder = none := (mode.resolve_left h1).resolve_left h2
    rw [State.present_holder, port, free, Option.getD_none]
    rw [out] at hv
    by_contra e
    have e : v ≠ w := fun h => e (h ▸ rfl)
    rw [others v e, hs.idle free v] at hv
    cases hv
  · by_cases hh : t.port.holder = none
    · rw [State.present_free _ w hh]
      refine State.grant_decisionFits w now ?_
      have free := hs.decided
      unfold State.decisionFits at free
      rw [port] at hh ⊢
      rw [hh] at free
      exact free
    · rw [State.present_held _ w hh]
      exact State.decisionFits_congr port (fun h => ⟨request h, depth⟩) hs.decided

/-- The port passes on when its holder's request is gone. -/
theorem State.ArbiterLaw.release (hs : s.ArbiterLaw) {w : Writer} (held : s.port.holder = some w)
    (mode : t.control.mode = s.control.mode) (gone : t.outstanding w = false)
    (others : ∀ v, v ≠ w → t.outstanding v = s.outstanding v) : t.release.ArbiterLaw := by
  have out := State.release_outstanding t
  have mode' : t.release.control.mode = s.control.mode := by
    obtain ⟨_, _, e⟩ := t.release_frame
    rw [e]
    exact mode
  have alone : s.control.mode ≠ .running → s.control.mode ≠ .unwinding → ∀ v, t.outstanding v = false := by
    intro h1 h2 v
    by_cases e : v = w
    · exact e ▸ gone
    · rw [others v e]
      by_contra hv
      have := hs.alone h1 h2 v (by simpa using hv)
      rw [held] at this
      exact e (Option.some.inj this).symm
  have waiting : t.control.mode = .held → ∀ v, t.outstanding v = false := by
    intro hh
    rw [mode] at hh
    exact alone (by simp [hh]) (by simp [hh])
  refine { holder := fun v hv => ?_, idle := fun hn v => ?_, alone := fun h1 h2 v hv => ?_, decided := ?_ }
  · rw [out]
    rw [State.release_holder] at hv
    split at hv
    · cases hv
    · exact State.nextWaiting_some hv
  · rw [out]
    rw [State.release_holder] at hn
    split at hn
    · next hh => exact waiting hh v
    · exact State.nextWaiting_none hn v
  · rw [out, alone (by rwa [← mode']) (by rwa [← mode'])] at hv
    cases hv
  · unfold State.release
    dsimp only
    split
    · exact rfl
    · split
      · next v hv => exact State.grant_decisionFits v (State.nextWaiting_some hv) rfl
      · exact rfl

theorem State.ArbiterLaw.withdraws (hs : s.ArbiterLaw) (h : s.Withdraws t) : t.ArbiterLaw where
  holder w hw := by
    rw [h.port] at hw
    rw [h.granted w hw]
    exact hs.holder w hw
  idle hn w := h.waiting w (by rw [← h.port, hn]; simp)
  alone _ _ w hw := by
    rw [h.port]
    by_contra hne
    rw [h.waiting w hne] at hw
    cases hw
  decided := State.decisionFits_congr h.port (fun hh => ⟨h.request hh, h.depth⟩) hs.decided

theorem State.Act.arbiterLaw (hs : s.ArbiterLaw) (h : s.Act unit t) : t.ArbiterLaw := by
  cases h with
  | quiet _ h => exact hs.of_sameRequests h.toSameRequests
  | slots | peer | agePeers => exact hs.of_sameRequests ⟨rfl, rfl, rfl, rfl, rfl, rfl, rfl⟩
  | presentText u hm =>
    exact hs.present hm rfl rfl (fun v hv => by cases v <;> first | rfl | exact absurd rfl hv) (fun _ => rfl) rfl
  | presentCrawl hm =>
    exact hs.present (.inl hm) rfl rfl (fun v hv => by cases v <;> first | rfl | exact absurd rfl hv) (fun _ => rfl) rfl
  | presentOverlay r hm free =>
    refine hs.present (hm.imp id .inl) rfl rfl (fun v hv => by cases v <;> first | rfl | exact absurd rfl hv) (fun h => ?_) rfl
    have := hs.holder _ h
    simp [State.outstanding, free] at this
  | presentPaint n r o hm =>
    exact hs.present (.inl hm) rfl rfl (fun v hv => by cases v <;> first | rfl | exact absurd rfl hv) (fun _ => rfl) rfl
  | finish w _ _ _ held h => exact hs.release held h.mode h.gone h.others
  | load _ was _ h =>
    have loaded : State.ArbiterLaw { s with control := { s.control with mode := .loading } } :=
      { hs with alone := fun _ _ => hs.alone (by simp [was]) (by simp [was]) }
    exact loaded.of_sameRequests h.toSameRequests
  | stop _ _ h | unwind _ _ h => exact hs.withdraws h
  | clear _ _ _ port waiting =>
    exact { holder := fun w hw => by simp [port] at hw, idle := fun _ => waiting
            alone := fun _ _ w hw => by simp [waiting w] at hw
            decided := by simp [State.decisionFits, port] }

theorem State.Opens.arbiterLaw (hs : s.ArbiterLaw) (h : s.Opens unit t) : t.ArbiterLaw := by
  cases h with
  | offer | silence | returned => exact hs.of_sameRequests ⟨rfl, rfl, rfl, rfl, rfl, rfl, rfl⟩
  | finishPaint o _ ho held =>
    have freed := hs.release (t := { s with paint := none }) held rfl rfl
      (fun v hv => by cases v <;> first | rfl | exact absurd rfl hv)
    unfold State.paintFreed
    dsimp only
    split
    · exact freed.of_sameRequests ⟨rfl, rfl, rfl, rfl, rfl, rfl, rfl⟩
    · exact freed
  | enter _ hm h =>
    have entered : State.ArbiterLaw { s with control := { s.control with mode := .running } } :=
      { hs with alone := fun hne => absurd rfl hne }
    exact entered.of_sameRequests h.toSameRequests

/-- What the paint unit takes is presented (R80, R85). -/
theorem State.paintTake_act (unit : Bool) (s : State) : s.Act unit s.paintTake := by
  have keep : s.Act unit s := .quiet s (.refl s)
  unfold State.paintTake
  split
  · next hr =>
    have hm : s.control.mode = .running := by simpa [State.isRunning] using hr.1
    split
    · exact .presentPaint _ _ _ hm hr.2 fun v hb hv => ⟨hb, hv, rfl⟩
    · split
      · exact .presentPaint _ _ _ hm hr.2 fun v hb hv => ⟨hb, hv, rfl⟩
      · exact keep
  · exact keep

theorem State.Course.arbiterLaw {b : Bool} (hs : s.ArbiterLaw) (h : s.Course unit b t) : t.ArbiterLaw := by
  induction h with
  | start => exact hs
  | act _ a ih => exact a.arbiterLaw ih
  | opening _ o ih => exact o.arbiterLaw ih
  | take _ ih => exact (State.paintTake_act unit _).arbiterLaw ih

end Sys2Proof.Machine
end

section
/-!
PROOFS. The laws of R78 and R53 under each act of a chain, and what keeps the port as it stands (R102).
-/
namespace Sys2Proof.Machine

variable {s t u : State} {unit : Bool}

/-! ## The choice of the paint unit (R79) -/

/-- Slot `n` offers the pending value `p` for a paint (R78). -/
theorem State.offersPaint_iff (s : State) (n : Nat) (p : Pending) : s.offersPaint n = some p ↔
    (s.slot n).bound = true ∧ 1 ≤ (s.slot n).priority ∧ (s.slot n).pending = some p := by
  unfold State.offersPaint
  split
  · next h => simp [h]
  · next h => simpa using fun hb hp => absurd ⟨hb, hp⟩ h

theorem State.restyleChoice_none : s.restyleChoice = none ↔ ∀ n, n < 256 → s.offersRestyle n = false := by
  simp [State.restyleChoice]

/-- One slot is compared with the best so far (R79). -/
def State.better (s : State) (best : Option (Nat × Pending)) (n : Nat) : Option (Nat × Pending) :=
  match s.offersPaint n, best with
  | none, _ => best
  | some p, none => some (n, p)
  | some p, some (m, q) => if s.goesBefore n p m q then some (n, p) else best

theorem State.paintChoice_eq (s : State) : s.paintChoice = (List.range 256).foldl s.better none := rfl

theorem State.foldl_better_none (ns : List Nat) :
    ns.foldl s.better none = none ↔ ∀ n ∈ ns, s.offersPaint n = none := by
  have some_ : ∀ (ns : List Nat) (b : Nat × Pending), ns.foldl s.better (some b) ≠ none := by
    intro ns
    induction ns with
    | nil => simp
    | cons n ns ih =>
      intro b
      rw [List.foldl_cons]
      obtain ⟨c, hc⟩ : ∃ c, s.better (some b) n = some c := by
        unfold State.better
        split
        · exact ⟨b, rfl⟩
        · next h => cases h
        · split <;> exact ⟨_, rfl⟩
      rw [hc]
      exact ih c
  induction ns with
  | nil => simp
  | cons n ns ih =>
    rw [List.foldl_cons]
    cases hn : s.offersPaint n with
    | none => simpa [State.better, hn] using ih
    | some p => simpa [State.better, hn] using some_ ns (n, p)

theorem State.paintChoice_none : s.paintChoice = none ↔ ∀ n, n < 256 → s.offersPaint n = none := by
  rw [State.paintChoice_eq, State.foldl_better_none]
  simp

/-! ## The law of R78 -/

/-- The law of R78, said slot by slot. -/
theorem State.paintLaw_iff : s.PaintLaw ↔ (s.control.mode = .running → s.paint = none → ∀ n, n < 256 →
    s.offersRestyle n = false ∧ s.offersPaint n = none) := by
  unfold State.PaintLaw
  rw [State.restyleChoice_none, State.paintChoice_none]
  exact forall₂_congr fun _ _ => ⟨fun h n hn => ⟨h.1 n hn, h.2 n hn⟩, fun h => ⟨fun n hn => (h n hn).1, fun n hn => (h n hn).2⟩⟩

theorem State.offers_nothing (h : (s.slot n).OffersNoMore (t.slot n))
    (hs : s.offersRestyle n = false ∧ s.offersPaint n = none) :
    t.offersRestyle n = false ∧ t.offersPaint n = none := by
  obtain ⟨h1, h2⟩ := hs
  constructor
  · unfold State.offersRestyle at h1 ⊢
    by_contra hc
    rw [Bool.not_eq_false, Bool.and_eq_true] at hc
    obtain ⟨hb, hr⟩ := h.restyle hc.1 hc.2
    simp [hb, hr] at h1
  · rw [Option.eq_none_iff_forall_ne_some] at h2 ⊢
    intro p hp
    obtain ⟨hb, hp, hv⟩ := (t.offersPaint_iff n p).1 hp
    obtain ⟨hb, hp, hv⟩ := h.paint hb hp (by simp [hv])
    obtain ⟨q, hq⟩ := Option.ne_none_iff_exists'.1 hv
    exact h2 q ((s.offersPaint_iff n q).2 ⟨hb, hp, hq⟩)

/-- A slot that keeps its fields, or is granted a paint, offers nothing more. -/
theorem Slot.offersNoMore_painted (r : Slot) (v : Value) (src : Nat) (live : Bool) (hold : Nat) :
    r.OffersNoMore (paintedSlot r v src live hold) where
  restyle _ h := by simp [paintedSlot] at h
  paint hb hp hv := ⟨hb, hp, hv⟩

/-- What a grant makes of a slot: nothing, or a paint's values (R82). -/
theorem State.slot_grant (s : State) (w : Writer) (n : Nat) : (s.grant w).slot n = s.slot n ∨
    (s.slot n).bound = true ∧ ∃ v src, (s.grant w).slot n =
      paintedSlot (s.slot n) v src (decide ((s.peer src).state = .live)) s.control.config.hold := by
  by_cases hw : w = .paint
  · subst hw
    change State.slot (State.grantPaint { s with port := { s.port with holder := some .paint } }) n = _ ∨ _ ∧ ∃ v src,
      State.slot (State.grantPaint { s with port := { s.port with holder := some .paint } }) n = _
    unfold State.grantPaint
    split
    · next m g v src _ _ =>
      dsimp only
      split
      · next hp =>
        have hb := State.passesChecks_bound _ hp
        have slot := State.slot_setSlot s m n (paintedSlot (s.slot m) v src (decide ((s.peer src).state = .live))
          s.control.config.hold)
        by_cases e : n = m
        · subst e
          rw [if_pos rfl] at slot
          exact .inr ⟨hb, v, src, slot⟩
        · rw [if_neg e] at slot
          exact .inl slot
      · exact .inl rfl
    · exact .inl rfl
    · exact .inl rfl
  · obtain ⟨p, e⟩ := s.grant_frame hw
    rw [e]
    exact .inl rfl

/-- What one act at the port makes of a slot. -/
def State.Grants (s : State) (n : Nat) (r : Slot) : Prop := r = s.slot n ∨
  (s.slot n).bound = true ∧ ∃ v src, r =
    paintedSlot (s.slot n) v src (decide ((s.peer src).state = .live)) s.control.config.hold

theorem State.slot_present (s : State) (w : Writer) (n : Nat) : s.Grants n ((s.present w).slot n) := by
  unfold State.present
  split
  · exact s.slot_grant w n
  · exact .inl rfl

theorem State.slot_release (s : State) (n : Nat) : s.Grants n (s.release.slot n) := by
  unfold State.release
  dsimp only
  split
  · exact .inl rfl
  · split
    · exact State.slot_grant _ _ n
    · exact .inl rfl

theorem State.Grants.offersNoMore {n : Nat} {r : Slot} (h : s.Grants n r) : (s.slot n).OffersNoMore r := by
  rcases h with rfl | ⟨-, v, src, rfl⟩
  · exact .refl _
  · exact Slot.offersNoMore_painted _ _ _ _ _

/-- An act offers the paint unit nothing: what it leaves, it leaves to a paint unit that was as idle. -/
theorem State.PaintLaw.keep (hs : s.PaintLaw) (mode : t.control.mode = .running → s.control.mode = .running)
    (paint : t.paint = none → s.paint = none) (slots : ∀ n, (s.slot n).OffersNoMore (t.slot n)) : t.PaintLaw := by
  rw [State.paintLaw_iff] at hs ⊢
  exact fun hm hp n hn => State.offers_nothing (slots n) (hs (mode hm) (paint hp) n hn)

theorem State.Act.paintLaw (hw : storeWf Slot.cold s.fields.slots = true) (hs : s.PaintLaw) (h : s.Act unit t) :
    t.PaintLaw := by
  have stopped : t.control.mode ≠ .running → t.PaintLaw := fun hne hm => absurd hm hne
  have same : ∀ {t : State}, t.control = s.control → t.fields = s.fields → ∀ w,
      (t.paint = none → s.paint = none) → (t.present w).PaintLaw := by
    intro t hc hf w hp
    obtain ⟨_, _, e⟩ := t.present_slots_frame w
    refine hs.keep (fun h => ?_) (fun h => hp ?_) fun n => ?_
    · rw [e] at h; rw [← hc]; exact h
    · rw [e] at h; exact h
    · have : t.slot n = s.slot n := by unfold State.slot; rw [hf]
      exact this ▸ (t.slot_present w n).offersNoMore
  cases h with
  | quiet _ h =>
    refine hs.keep (fun hm => by rw [← h.mode]; exact hm) (fun hp => by rw [← h.paint]; exact hp) fun n => ?_
    have : t.slot n = s.slot n := by unfold State.slot; rw [h.slots]
    exact this ▸ .refl _
  | slots m _ _ h => exact hs.keep id id fun n => (h hw n).2
  | peer | agePeers => exact hs.keep id id fun n => .refl _
  | presentText u => exact same (t := { s with text := some u }) rfl rfl _ id
  | presentCrawl => exact same (t := { s with crawl := { s.crawl with request := true } }) rfl rfl _ id
  | presentOverlay r => exact same (t := { s with overlay := { s.overlay with request := some r } }) rfl rfl _ id
  | presentPaint n r o =>
    intro _ hp
    obtain ⟨_, _, e⟩ := State.present_slots_frame { s.setSlot n r with paint := some o } .paint
    rw [e] at hp
    cases hp
  | finish w u _ hne _ h =>
    obtain ⟨_, _, e⟩ := u.release_frame
    refine hs.keep (fun hm => ?_) (fun hp => ?_) fun n => ?_
    · rw [e] at hm; rw [← h.mode]; exact hm
    · rw [e] at hp; rw [← h.paint]; exact hp
    · have : u.slot n = s.slot n := by unfold State.slot; rw [h.slots]
      exact this ▸ (u.slot_release n).offersNoMore
  | stop _ hm | load _ _ hm => exact stopped (by simp [hm])
  | unwind _ hm => exact stopped (by simp [hm])
  | clear _ _ hm => exact stopped (by simp [hm])

/-- After it has taken work the paint unit is not IDLE with work offered (R78). -/
theorem State.paintLaw_paintTake (s : State) : s.paintTake.PaintLaw := by
  have busy : ∀ {t : State}, t.paint ≠ none → t.PaintLaw := fun hne _ hp => absurd hp hne
  have taken : ∀ (n : Nat) (r : Slot) (o : PaintOp),
      (State.present { s.setSlot n r with paint := some o } .paint).PaintLaw := by
    intro n r o
    obtain ⟨_, _, e⟩ := State.present_slots_frame { s.setSlot n r with paint := some o } .paint
    exact busy (by rw [e]; simp)
  unfold State.paintTake
  split
  · split
    · exact taken _ _ _
    · next hr =>
      split
      · exact taken _ _ _
      · next hp => exact fun _ _ => ⟨hr, hp⟩
  · next hno => exact fun hm hp => absurd ⟨by simp [State.isRunning, hm], hp⟩ hno

/-! ## The slots and the peers stay sorted -/

/-- The slots and the peer entries stand by number, as 3.1 and 2.1 list them. -/
def State.Sorted (s : State) : Prop :=
  storeWf Slot.cold s.fields.slots = true ∧ storeWf PeerEntry.cold s.peers = true

theorem State.Sorted.congr (h : s.Sorted) (hf : t.fields.slots = s.fields.slots) (hp : t.peers = s.peers) :
    t.Sorted := by
  unfold State.Sorted
  rw [hf, hp]
  exact h

theorem State.Sorted.grantPaint (h : s.Sorted) : s.grantPaint.Sorted := by
  unfold State.grantPaint
  split
  · dsimp only
    split
    · exact ⟨storeSet_wf _ _ _ _ h.1, h.2⟩
    · exact h
  · exact h
  · exact h

theorem State.Sorted.grant (h : s.Sorted) (w : Writer) : (s.grant w).Sorted := by
  by_cases hw : w = .paint
  · subst hw
    exact State.Sorted.grantPaint (s := { s with port := { s.port with holder := some .paint } }) h
  · obtain ⟨p, e⟩ := s.grant_frame hw
    rw [e]
    exact h

theorem State.Sorted.present (h : s.Sorted) (w : Writer) : (s.present w).Sorted := by
  unfold State.present
  split
  · exact h.grant w
  · exact h

theorem State.Sorted.release (h : s.Sorted) : s.release.Sorted := by
  unfold State.release
  dsimp only
  split
  · exact h
  · split
    · exact State.Sorted.grant (s := { s with port := { holder := none, decided := .standing } }) h _
    · exact h

theorem State.Act.sorted (hs : s.Sorted) (h : s.Act unit t) : t.Sorted := by
  cases h with
  | quiet _ h => exact hs.congr h.slots h.peers
  | slots m hw => exact ⟨hw hs.1, hs.2⟩
  | peer p e => exact ⟨hs.1, storeSet_wf _ _ _ _ hs.2⟩
  | agePeers => exact ⟨hs.1, storeMap_wf _ _ _ hs.2⟩
  | presentText u => exact State.Sorted.present (s := { s with text := some u }) hs _
  | presentCrawl => exact State.Sorted.present (s := { s with crawl := { s.crawl with request := true } }) hs _
  | presentOverlay r => exact State.Sorted.present (s := { s with overlay := { s.overlay with request := some r } }) hs _
  | presentPaint n r o =>
    exact State.Sorted.present (s := { s.setSlot n r with paint := some o }) ⟨storeSet_wf _ _ _ _ hs.1, hs.2⟩ _
  | finish w u _ _ _ h => exact (hs.congr h.slots h.peers).release
  | stop _ _ _ slots peers =>
    rcases peers with h | h
    · exact hs.congr slots h
    · exact ⟨slots ▸ hs.1, by rw [h]; rfl⟩
  | load _ _ _ h => exact hs.congr h.slots h.peers
  | unwind _ _ _ peers _ _ hw => exact ⟨hw hs.1, by rw [peers]; rfl⟩
  | clear _ _ _ _ _ slots peers => exact ⟨by rw [slots]; rfl, peers ▸ hs.2⟩

theorem State.Sorted.paintFreed (h : s.Sorted) (n : Nat) : (s.paintFreed n).Sorted := by
  have freed := State.Sorted.release (s := { s with paint := none }) h
  unfold State.paintFreed
  dsimp only
  split
  · exact ⟨storeSet_wf _ _ _ _ freed.1, freed.2⟩
  · exact freed

theorem State.Opens.sorted (hs : s.Sorted) (h : s.Opens unit t) : t.Sorted := by
  cases h with
  | offer m hw => exact ⟨hw hs.1, hs.2⟩
  | silence | returned => exact ⟨storeMap_wf _ _ _ hs.1, storeSet_wf _ _ _ _ hs.2⟩
  | finishPaint o => exact hs.paintFreed _
  | enter _ _ h => exact hs.congr h.slots h.peers

theorem State.Sorted.paintTake (h : s.Sorted) : s.paintTake.Sorted := (State.paintTake_act true s).sorted h

theorem State.Course.sorted {b : Bool} (hs : s.Sorted) (h : s.Course unit b t) : t.Sorted := by
  induction h with
  | start => exact hs
  | act _ a ih => exact a.sorted ih
  | opening _ o ih => exact o.sorted ih
  | take _ ih => exact ih.paintTake

/-- A chain that ends with no work offered since the paint unit took some keeps the law of R78. -/
theorem State.Course.paintLaw (hw : s.Sorted) (hs : s.PaintLaw) (h : s.Course unit false t) : t.PaintLaw := by
  have settled : ∀ {b : Bool} {t : State}, s.Course unit b t → b = false → t.PaintLaw := by
    intro b t h
    induction h with
    | start => exact fun _ => hs
    | act r a ih => exact fun hb => a.paintLaw (r.sorted hw).1 (ih hb)
    | opening => nofun
    | take => exact fun _ => State.paintLaw_paintTake _
  exact settled h rfl

/-! ## The port while a unit holds it (R102) -/

theorem State.Act.port_held (h : s.Act false t) (held : s.port.holder ≠ none) : t.port = s.port := by
  cases h with
  | quiet _ h => exact h.port
  | slots | peer | agePeers => rfl
  | presentText | presentCrawl | presentOverlay => rw [State.present_held _ _ (by exact held)]
  | presentPaint =>
    rw [State.present_held _ _ (by exact held)]
    rfl
  | finish _ _ hu => cases hu
  | load _ _ _ h => exact h.port
  | stop _ _ h | unwind _ _ h => exact h.port
  | clear _ hu => cases hu

theorem State.Opens.port_held (h : s.Opens false t) : t.port = s.port := by
  cases h with
  | offer | silence | returned => rfl
  | finishPaint _ hu => cases hu
  | enter _ _ h => exact h.port

/-- A chain that ends no unit leaves a held port, and what its holder decided, as they are. -/
theorem State.Course.port_held {b : Bool} (h : s.Course false b t) (held : s.port.holder ≠ none) : t.port = s.port := by
  induction h with
  | start => rfl
  | act _ a ih => exact (a.port_held (ih ▸ held)).trans ih
  | opening _ o ih => exact o.port_held.trans ih
  | take _ ih => exact ((State.paintTake_act false _).port_held (ih ▸ held)).trans ih

end Sys2Proof.Machine
end

section
/-!
PROOFS. The law of R53 under each act of a chain.
-/
namespace Sys2Proof.Machine

variable {s t u : State} {unit : Bool}

/-- What the law of R53 says of one slot while RUNNING. -/
def State.StaleAt (s : State) (r : Slot) : Prop := ∀ v, r.bound = true → r.shown = some v →
  (r.stale = true ∨ (s.peer v.source).silenceDue = true ↔ (s.peer v.source).state ≠ .live)

/-- What the law of R53 says of one slot in a warm reset. -/
def State.Unwound (r : Slot) : Prop := r.bound = true → r.shown.isSome = true → r.stale = true

theorem State.StaleAt.keepsShown {r r' : Slot} (h : s.StaleAt r) (keep : r.KeepsShown r') : s.StaleAt r' := by
  intro v hb hv
  obtain ⟨hb, hv, hs⟩ := keep v hb hv
  rw [hs]
  exact h v hb hv

theorem State.StaleAt.congr {r : Slot} (h : s.StaleAt r) (peers : t.peers = s.peers) : t.StaleAt r := by
  intro v hb hv
  unfold State.peer
  rw [peers]
  exact h v hb hv

theorem Slot.KeepsShown.unwound {r r' : Slot} (h : State.Unwound r) (keep : r.KeepsShown r') : State.Unwound r' := by
  intro hb hv
  obtain ⟨v, hv⟩ := Option.isSome_iff_exists.1 hv
  obtain ⟨hb, hv, hs⟩ := keep v hb hv
  rw [hs]
  exact h hb (by simp [hv])

/-- A slot that a paint updates is stale exactly when the paint's source is not LIVE (R82). -/
theorem State.StaleAt.grants (due : ∀ p, (s.peer p).silenceDue = true → (s.peer p).state ≠ .live) {n : Nat} {r : Slot}
    (h : s.StaleAt (s.slot n)) (granted : s.Grants n r) : s.StaleAt r := by
  rcases granted with rfl | ⟨-, v, src, rfl⟩
  · exact h
  · intro w _ hw
    simp only [paintedSlot, Option.some.injEq] at hw
    subst hw
    simp only [paintedSlot, Bool.not_eq_true', decide_eq_false_iff_not]
    exact ⟨fun h => h.elim id (due _), .inl⟩

/-- With no LIVE peer a slot that a paint updates is stale. -/
theorem State.Grants.unwound (peers : s.peers = []) {n : Nat} {r : Slot} (h : State.Unwound (s.slot n))
    (granted : s.Grants n r) : State.Unwound r := by
  rcases granted with rfl | ⟨-, v, src, rfl⟩
  · exact h
  · intro _ _
    simp [paintedSlot, State.peer, peers, PeerEntry.cold]

/-- No grant makes a slot record where there are none. -/
theorem State.Grants.cold {n : Nat} {r : Slot} (h : s.slot n = Slot.cold) (granted : s.Grants n r) : r = Slot.cold := by
  rcases granted with rfl | ⟨hb, -⟩
  · exact h
  · rw [h] at hb
    cases hb

theorem State.grantPaint_noSlots (h : s.fields.slots = []) : s.grantPaint.fields.slots = [] := by
  unfold State.grantPaint
  split
  · dsimp only
    split
    · next hp =>
      have hb := State.passesChecks_bound _ hp
      simp [State.slot, h, Slot.cold] at hb
    · exact h
  · exact h
  · exact h

theorem State.grant_noSlots (w : Writer) (h : s.fields.slots = []) : (s.grant w).fields.slots = [] := by
  by_cases hw : w = .paint
  · subst hw
    exact State.grantPaint_noSlots (s := { s with port := { s.port with holder := some .paint } }) h
  · obtain ⟨p, e⟩ := s.grant_frame hw
    rw [e]
    exact h

theorem State.present_noSlots (w : Writer) (h : s.fields.slots = []) : (s.present w).fields.slots = [] := by
  unfold State.present
  split
  · exact s.grant_noSlots w h
  · exact h

theorem State.release_noSlots (h : s.fields.slots = []) : s.release.fields.slots = [] := by
  unfold State.release
  dsimp only
  split
  · exact h
  · split
    · exact State.grant_noSlots (s := { s with port := { holder := none, decided := .standing } }) _ h
    · exact h

/-! ## The law of R53 -/

/-- The law, slot by slot. -/
theorem State.StaleLaw.at (hs : s.StaleLaw) (hm : s.control.mode = .running) (n : Nat) : s.StaleAt (s.slot n) :=
  fun v hb hv => hs.law hm n v hb hv

/-- Where the paint unit does not hold the port, no slot is left out of a warm reset. -/
theorem State.StaleLaw.unwound (hs : s.StaleLaw) (hm : s.control.mode = .unwinding)
    (hp : s.port.holder ≠ some .paint) (n : Nat) : State.Unwound (s.slot n) :=
  fun hb hv => ((hs.unwinding hm).2 n hb hv).resolve_right fun h => hp h.1

theorem State.leftOut_congr {n : Nat} (h : s.leftOut n) (port : t.port = s.port) (paint : t.paint = s.paint) :
    t.leftOut n := by
  unfold State.leftOut
  rw [port, paint]
  exact h

/-- An act that keeps the painter's state, the peers and the granted unit, and leaves each slot its shown value. -/
theorem State.StaleLaw.keep (hs : s.StaleLaw) (mode : t.control.mode = s.control.mode) (peers : t.peers = s.peers)
    (slots : ∀ n, (s.slot n).KeepsShown (t.slot n)) (none : s.control.mode = .clearing → s.hand = .idle → s.fields.slots = [] → t.fields.slots = [])
    (left : s.control.mode = .unwinding → s.port.holder = some .paint → t.port = s.port ∧ t.paint = s.paint)
    (hand : s.control.mode ≠ .running → s.hand = .idle → t.hand = .idle) : t.StaleLaw where
  law hm n := ((hs.at (mode ▸ hm) n).keepsShown (slots n)).congr peers
  due p := by unfold State.peer; rw [peers]; exact hs.due p
  unwinding hm := by
    rw [mode] at hm
    obtain ⟨hp, hl⟩ := hs.unwinding hm
    refine ⟨by rw [peers]; exact hp, fun n hb hv => ?_⟩
    obtain ⟨v, hv⟩ := Option.isSome_iff_exists.1 hv
    obtain ⟨hb, hv, e⟩ := slots n v hb hv
    rw [e]
    rcases hl n hb (by simp [hv]) with h | h
    · exact .inl h
    · obtain ⟨port, paint⟩ := left hm h.1
      exact .inr (State.leftOut_congr h port paint)
  clearing hm := by
    rw [mode] at hm
    exact none hm (hs.hand (by simp [hm])) (hs.clearing hm)
  hand hm := by
    rw [mode] at hm
    exact hand hm (hs.hand hm)

/-- An act at the port: a request is presented, or the port passes on. -/
theorem State.StaleLaw.grants (hs : s.StaleLaw) (mode : t.control.mode = s.control.mode) (peers : t.peers = s.peers)
    (slots : ∀ n, s.Grants n (t.slot n)) (none : s.fields.slots = [] → t.fields.slots = []) (hand : t.hand = s.hand)
    (left : s.control.mode = .unwinding → (∀ n, State.Unwound (s.slot n)) ∨
      ∀ n, t.slot n = s.slot n ∧ (s.leftOut n → t.leftOut n)) : t.StaleLaw where
  law hm n := ((hs.at (mode ▸ hm) n).grants hs.due (slots n)).congr peers
  due p := by unfold State.peer; rw [peers]; exact hs.due p
  unwinding hm := by
    rw [mode] at hm
    obtain ⟨hp, hl⟩ := hs.unwinding hm
    refine ⟨by rw [peers]; exact hp, fun n hb hv => ?_⟩
    rcases left hm with all | same
    · exact .inl ((slots n).unwound hp (all n) hb hv)
    · obtain ⟨e, keep⟩ := same n
      rw [e] at hb hv ⊢
      exact (hl n hb hv).imp id keep
  clearing hm := none (hs.clearing (mode ▸ hm))
  hand hm := by rw [mode] at hm; rw [hand]; exact hs.hand hm

theorem State.StaleLaw.present (hs : s.StaleLaw) (w : Writer) : (s.present w).StaleLaw := by
  obtain ⟨_, _, e⟩ := s.present_slots_frame w
  refine hs.grants (by rw [e]) (by rw [e]) (s.slot_present w) (s.present_noSlots w) (by rw [e]) fun hm => ?_
  cases hh : s.port.holder with
  | none => exact .inl (hs.unwound hm (by simp [hh]))
  | some v =>
    rw [State.present_held _ _ (by simp [hh])]
    exact .inr fun n => ⟨rfl, id⟩

theorem State.StaleLaw.release (hs : s.StaleLaw) (all : s.control.mode = .unwinding → ∀ n, State.Unwound (s.slot n)) :
    s.release.StaleLaw := by
  obtain ⟨_, _, e⟩ := s.release_frame
  exact hs.grants (by rw [e]) (by rw [e]) s.slot_release s.release_noSlots (by rw [e]) fun hm => .inl (all hm)

/-- While RUNNING the law speaks of the shown slots and the silence events alone. -/
theorem State.StaleLaw.of_running (hm : s.control.mode = .running) (law : ∀ n, s.StaleAt (s.slot n))
    (due : ∀ p, (s.peer p).silenceDue = true → (s.peer p).state ≠ .live) : s.StaleLaw where
  law _ n v hb hv := law n v hb hv
  due := due
  unwinding h := by cases hm.symm.trans h
  clearing h := by cases hm.symm.trans h
  hand h := absurd hm h

/-- In HELD and LOADING the law keeps the free dispatcher and the silence events. -/
theorem State.StaleLaw.of_stopped (h1 : s.control.mode ≠ .running) (h2 : s.control.mode ≠ .unwinding)
    (h3 : s.control.mode ≠ .clearing) (due : ∀ p, (s.peer p).silenceDue = true → (s.peer p).state ≠ .live)
    (hand : s.hand = .idle) : s.StaleLaw where
  law h := absurd h h1
  due := due
  unwinding h := absurd h h2
  clearing h := absurd h h3
  hand _ := hand

/-- What an entry becomes at a frame start: it turns SILENT and its silence event is raised, or neither changes (R32). -/
theorem PeerEntry.age_cases (stale group limit : Nat) (e : PeerEntry) :
    e.state = .live ∧ (e.age stale group limit).state = .silent ∧ (e.age stale group limit).silenceDue = true ∨
      (e.age stale group limit).state = e.state ∧ (e.age stale group limit).silenceDue = e.silenceDue := by
  by_cases hl : e.state = .live ∧ e.silenceAge + 1 = stale
  · exact .inl (by simp [PeerEntry.age, PeerEntry.isLive, hl.1, hl.2])
  · refine .inr ?_
    simp only [PeerEntry.age, PeerEntry.isLive]
    rw [not_and_or] at hl
    rcases hl with h | h <;> simp [h]

theorem State.Act.staleLaw (hw : s.Sorted) (hs : s.StaleLaw) (h : s.Act unit t) : t.StaleLaw := by
  have still : ∀ n, (s.slot n).KeepsShown (s.slot n) := fun n => .refl _
  cases h with
  | quiet _ h =>
    refine hs.keep h.mode h.peers (fun n => ?_) (fun _ _ e => by rw [h.slots]; exact e) (fun _ _ => ⟨h.port, h.paint⟩) h.hand
    unfold State.slot
    rw [h.slots]
    exact .refl _
  | slots m _ none h => exact hs.keep rfl rfl (fun n => (h hw.1 n).1) none (fun _ _ => ⟨rfl, rfl⟩) (fun _ => id)
  | peer p e hm state due =>
    have same : ∀ q, ((s.setPeer p e).peer q).silenceDue = (s.peer q).silenceDue ∧
        (((s.setPeer p e).peer q).state = .live ↔ (s.peer q).state = .live) := by
      intro q
      rw [State.peer_setPeer]
      split
      · next h => exact h ▸ ⟨due, state⟩
      · exact ⟨rfl, Iff.rfl⟩
    refine .of_running hm (fun n v hb hv => ?_) fun q => ?_
    · rw [(same _).1, ne_eq, (same _).2]
      exact hs.at hm n v hb hv
    · rw [(same _).1, ne_eq, (same _).2]
      exact hs.due q
  | agePeers hm =>
    refine .of_running hm (fun n v hb hv => ?_) fun q => ?_
    · rw [State.agePeers_peer hw.2]
      rcases PeerEntry.age_cases s.staleTime s.control.config.group s.candidateLimit (s.peer v.source) with
        ⟨-, h1, h2⟩ | ⟨h1, h2⟩
      · rw [h1, h2]
        exact ⟨fun _ => by simp, fun _ => .inr rfl⟩
      · rw [h1, h2]
        exact hs.at hm n v hb hv
    · rw [State.agePeers_peer hw.2]
      rcases PeerEntry.age_cases s.staleTime s.control.config.group s.candidateLimit (s.peer q) with
        ⟨-, h1, h2⟩ | ⟨h1, h2⟩
      · rw [h1]
        exact fun _ => by simp
      · rw [h1, h2]
        exact hs.due q
  | presentText u =>
    exact (hs.keep (t := { s with text := some u }) rfl rfl still (fun _ _ => id) (fun _ _ => ⟨rfl, rfl⟩) (fun _ => id)).present _
  | presentCrawl =>
    exact (hs.keep (t := { s with crawl := { s.crawl with request := true } }) rfl rfl still (fun _ _ => id)
      (fun _ _ => ⟨rfl, rfl⟩) (fun _ => id)).present _
  | presentOverlay r =>
    exact (hs.keep (t := { s with overlay := { s.overlay with request := some r } }) rfl rfl still (fun _ _ => id)
      (fun _ _ => ⟨rfl, rfl⟩) (fun _ => id)).present _
  | presentPaint n r o hm _ keep =>
    have running : State.StaleLaw { s.setSlot n r with paint := some o } := by
      refine .of_running hm (fun m => ?_) hs.due
      change s.StaleAt (State.slot (s.setSlot n r) m)
      rw [State.slot_setSlot]
      split
      · next h => exact (h ▸ hs.at hm m).keepsShown keep
      · exact hs.at hm m
    exact running.present _
  | finish w u _ hne held h =>
    have slot : ∀ n, u.slot n = s.slot n := fun n => by unfold State.slot; rw [h.slots]
    have freed : u.StaleLaw := hs.keep h.mode h.peers (fun n => slot n ▸ .refl _) (fun _ _ e => by rw [h.slots]; exact e)
      (fun _ hp => by rw [held] at hp; exact absurd (Option.some.inj hp) hne) (fun _ => h.hand ▸ id)
    refine freed.release fun hm n => ?_
    rw [slot]
    refine hs.unwound (h.mode ▸ hm) ?_ n
    rw [held]
    exact fun e => hne (Option.some.inj e)
  | stop _ hm h slots peers =>
    refine .of_stopped (by simp [hm]) (by simp [hm]) (by simp [hm]) (fun p => ?_) h.hand
    rcases peers with e | e
    · unfold State.peer; rw [e]; exact hs.due p
    · simp [State.peer, e, PeerEntry.cold]
  | load _ was hm h =>
    refine .of_stopped (by simp [hm]) (by simp [hm]) (by simp [hm]) (fun p => ?_) ?_
    · unfold State.peer; rw [h.peers]; exact hs.due p
    · exact h.hand nofun (hs.hand (by simp [was]))
  | unwind _ hm h peers left shown =>
    refine { law := fun hr => by simp [hm] at hr, due := fun p => by simp [State.peer, peers, PeerEntry.cold]
             unwinding := fun _ => ⟨peers, fun n hb hv => (shown hw.1 n hb hv).imp id fun l => ?_⟩
             clearing := fun h => by simp [hm] at h, hand := fun _ => h.hand }
    exact State.leftOut_congr l h.port (left l.1)
  | clear _ _ hm _ _ slots peers hand same =>
    exact { law := fun hr => by simp [hm] at hr, due := fun p => by unfold State.peer; rw [peers]; exact hs.due p
            unwinding := fun h => by simp [hm] at h, clearing := fun _ => slots
            hand := fun _ => by rw [same]; exact hs.hand hand }

/-- The slot of the granted unit is the one that is left out of a warm reset. -/
theorem State.leftOut_slotOf {o : PaintOp} (ho : s.paint = some o) {n : Nat} (h : s.leftOut n) : n = o.slotOf := by
  obtain ⟨-, ⟨g, v, src, st, e⟩ | ⟨g, e⟩⟩ := h
  · rw [ho] at e; cases e; rfl
  · rw [ho] at e; cases e; rfl

theorem State.StaleLaw.paintFreed (hs : s.StaleLaw) {o : PaintOp} (ho : s.paint = some o) :
    (s.paintFreed o.slotOf).StaleLaw := by
  have mode : State.control (State.release { s with paint := none }) = s.control := State.release_control _
  by_cases hm : s.control.mode = .unwinding
  · obtain ⟨hp, hl⟩ := hs.unwinding hm
    have freed : s.paintFreed o.slotOf = (State.release { s with paint := none }).setSlot o.slotOf
        ((State.release { s with paint := none }).slot o.slotOf).onWarmReset := if_pos (by rw [mode]; exact hm)
    obtain ⟨_, _, e⟩ := State.release_frame { s with paint := none }
    have slots := fun n => State.slot_release { s with paint := none } n
    rw [freed]
    refine { law := fun hr => ?_, due := ?_, unwinding := fun _ => ⟨?_, fun n hb hv => .inl ?_⟩, clearing := fun hc => ?_
             hand := ?_ }
    · rw [State.setSlot_control, mode, hm] at hr
      cases hr
    · rw [e]; exact hs.due
    · rw [e]; exact hp
    · rw [State.slot_setSlot] at hb hv ⊢
      by_cases hn : n = o.slotOf
      · rw [if_pos hn] at hb hv ⊢
        have hb : (State.slot (State.release { s with paint := none }) o.slotOf).bound = true := hb
        have hv : (State.slot (State.release { s with paint := none }) o.slotOf).shown.isSome = true := hv
        simp [Slot.onWarmReset, hb, hv]
      · rw [if_neg hn] at hb hv ⊢
        refine State.Grants.unwound (s := { s with paint := none }) hp (fun hb hv => ?_) (slots n) hb hv
        exact (hl n hb hv).resolve_right fun h => hn (State.leftOut_slotOf ho h)
    · rw [State.setSlot_control, mode, hm] at hc
      cases hc
    · rw [e]; exact hs.hand
  · have freed : s.paintFreed o.slotOf = State.release { s with paint := none } := if_neg (by rw [mode]; exact hm)
    rw [freed]
    exact (hs.keep (t := { s with paint := none }) rfl rfl (fun n => .refl _) (fun _ _ => id) (fun h => absurd h hm)
      (fun _ => id)).release fun h => absurd h hm

theorem Slot.onSilence_staleAt {p : Nat} {e : PeerEntry} {r : Slot} (h : s.StaleAt r)
    (silent : (s.peer p).state ≠ .live) (state : e.state = (s.peer p).state) :
    (s.setPeer p e).StaleAt (r.onSilence p) := by
  intro v hb hv
  unfold Slot.onSilence at hb hv ⊢
  rw [State.peer_setPeer]
  split at hb
  · next hs =>
    rw [if_pos hs] at hv ⊢
    obtain ⟨_, w, hw, src⟩ := Slot.bound_of_shows hs
    have hv : r.shown = some v := hv
    obtain rfl : w = v := by rw [hw] at hv; exact Option.some.inj hv
    rw [if_pos src, state]
    exact ⟨fun _ => silent, fun _ => .inl rfl⟩
  · next hs =>
    rw [if_neg hs] at hv ⊢
    have src : v.source ≠ p := fun e => hs (by simp [Slot.shows, hb, hv, e])
    rw [if_neg src]
    exact h v hb hv

theorem Slot.onReturn_staleAt {p : Nat} {e : PeerEntry} {r : Slot} (h : s.StaleAt r) (live : e.state = .live)
    (due : e.silenceDue = false) : (s.setPeer p e).StaleAt (r.onReturn p) := by
  intro v hb hv
  unfold Slot.onReturn at hb hv ⊢
  rw [State.peer_setPeer]
  split at hb
  · next hs =>
    rw [if_pos hs] at hv ⊢
    obtain ⟨_, w, hw, src⟩ := Slot.bound_of_shows hs
    have hv : r.shown = some v := hv
    obtain rfl : w = v := by rw [hw] at hv; exact Option.some.inj hv
    simp [src, live, due]
  · next hs =>
    rw [if_neg hs] at hv ⊢
    have src : v.source ≠ p := fun e => hs (by simp [Slot.shows, hb, hv, e])
    rw [if_neg src]
    exact h v hb hv

theorem State.slot_mapSlots_setPeer (hw : s.Sorted) (p : Nat) (e : PeerEntry) {f : Slot → Slot}
    (hf : f Slot.cold = Slot.cold) (n : Nat) : ((s.setPeer p e).mapSlots f).slot n = f (s.slot n) :=
  storeGet_map _ _ _ _ hf hw.1

theorem State.Opens.staleLaw (hw : s.Sorted) (hs : s.StaleLaw) (h : s.Opens unit t) : t.StaleLaw := by
  cases h with
  | offer m _ none h => exact hs.keep rfl rfl (h hw.1) none (fun _ _ => ⟨rfl, rfl⟩) (fun _ => id)
  | silence p hm due =>
    refine .of_running hm (fun n => ?_) fun q => ?_
    · rw [State.slot_mapSlots_setPeer hw _ _ rfl]
      exact Slot.onSilence_staleAt (hs.at hm n) (hs.due p due) rfl
    · change ((s.setPeer p { s.peer p with silenceDue := false }).peer q).silenceDue = true →
        ((s.setPeer p { s.peer p with silenceDue := false }).peer q).state ≠ .live
      rw [State.peer_setPeer]
      split
      · nofun
      · exact hs.due q
  | returned p e hm live due =>
    refine .of_running hm (fun n => ?_) fun q => ?_
    · rw [State.slot_mapSlots_setPeer hw _ _ rfl]
      exact Slot.onReturn_staleAt (hs.at hm n) live due
    · change ((s.setPeer p e).peer q).silenceDue = true → ((s.setPeer p e).peer q).state ≠ .live
      rw [State.peer_setPeer]
      split
      · simp [due]
      · exact hs.due q
  | finishPaint o _ ho => exact hs.paintFreed ho
  | enter _ hm h from_ =>
    have peer : ∀ q, t.peer q = s.peer q := fun q => by unfold State.peer; rw [h.peers]
    have slot : ∀ n, t.slot n = s.slot n := fun n => by unfold State.slot; rw [h.slots]
    refine .of_running hm (fun n v hb hv => ?_) fun q => by rw [peer]; exact hs.due q
    rw [slot] at hb hv ⊢
    rcases from_ with hc | ⟨hu, hn⟩
    · simp [State.slot, hs.clearing hc, Slot.cold] at hb
    · have stale : (s.slot n).stale = true := hs.unwound hu (by simp [hn]) n hb (by simp [hv])
      rw [peer]
      simp [stale, State.peer, (hs.unwinding hu).1, PeerEntry.cold]

theorem State.Course.staleLaw {b : Bool} (hw : s.Sorted) (hs : s.StaleLaw) (h : s.Course unit b t) : t.StaleLaw := by
  induction h with
  | start => exact hs
  | act r a ih => exact a.staleLaw (r.sorted hw) ih
  | opening r o ih => exact o.staleLaw (r.sorted hw) ih
  | take r ih => exact (State.paintTake_act unit _).staleLaw (r.sorted hw) ih

end Sys2Proof.Machine
end

section
/-!
PROOFS. Every shared operation of the model is a chain of acts on the work of the painter.
-/
namespace Sys2Proof.Machine

variable {s t u : State} {unit : Bool}

/-! ## What leaves the work of the painter alone -/

/-- Nothing of the painter's work changes. -/
theorem State.SameWork.quiet (mode : t.control.mode = s.control.mode := by rfl) (port : t.port = s.port := by rfl)
    (overlay : t.overlay.request = s.overlay.request := by rfl)
    (depth : t.overlay.levels = s.overlay.levels := by rfl) (crawl : t.crawl.request = s.crawl.request := by rfl)
    (paint : t.paint = s.paint := by rfl) (text : t.text = s.text := by rfl)
    (slots : t.fields.slots = s.fields.slots := by rfl) (peers : t.peers = s.peers := by rfl)
    (hand : t.hand = s.hand := by rfl) : s.SameWork t :=
  ⟨⟨mode, port, overlay, congrArg List.length depth, crawl, paint, text⟩, slots, peers, fun _ => hand ▸ id⟩

theorem State.SameWork.trans (h : s.SameWork t) (h' : t.SameWork u) : s.SameWork u where
  mode := h'.mode.trans h.mode
  port := h'.port.trans h.port
  request := h'.request.trans h.request
  depth := h'.depth.trans h.depth
  crawl := h'.crawl.trans h.crawl
  paint := h'.paint.trans h.paint
  text := h'.text.trans h.text
  slots := h'.slots.trans h.slots
  peers := h'.peers.trans h.peers
  hand hm hs := h'.hand (h.mode ▸ hm) (h.hand hm hs)

theorem State.bump_quiet (s : State) (n a : Nat) : s.SameWork (s.bump n a) := .quiet

theorem State.countUnusable_quiet (s : State) : s.SameWork s.countUnusable := .quiet

theorem State.setLanePort_quiet (s : State) (l : Lane) (p : Port) : s.SameWork (s.setLanePort l p) := by
  cases l <;> exact .quiet

theorem State.contend_quiet (s : State) (l : Lane) : s.SameWork (s.contend l) := s.setLanePort_quiet l _

theorem State.portTake_quiet (s : State) (l : Lane) : s.SameWork (s.portTake l) := by
  obtain ⟨_, _, e⟩ := s.portTake_frame l
  rw [e]
  exact .quiet

theorem State.afterSent_quiet (s : State) (l : Lane) : s.SameWork (s.afterSent l) := by
  obtain ⟨_, _, e⟩ := s.afterSent_frame l
  rw [e]
  exact .quiet

theorem State.markSend_quiet (s : State) (l : Lane) (q : BitVec 16) (st : SendState) : s.SameWork (s.markSend l q st) :=
  .quiet

theorem State.dropCarrier_quiet (s : State) (l : Lane) : s.SameWork (s.dropCarrier l) := s.setLanePort_quiet l _

theorem State.countReception_quiet (s : State) (l : Lane) (cls : RxClass) (len : Nat) :
    s.SameWork (s.countReception l cls len) := by
  obtain ⟨_, e⟩ := s.countReception_frame l cls len
  rw [e]
  exact .quiet

theorem State.takeGood_quiet (s : State) (l : Lane) (bytes : List Byte) : s.SameWork (s.takeGood l bytes) := by
  obtain ⟨_, _, e⟩ := s.takeGood_frame l bytes
  rw [e]
  exact .quiet

theorem State.queueBeacon_quiet (s : State) (payload : List Byte) : s.SameWork (s.queueBeacon payload) := by
  obtain ⟨_, _, _, e⟩ := s.queueBeacon_frame payload
  rw [e]
  exact .quiet

theorem State.queueReply_quiet (s : State) (dest kind : Nat) (seq : BitVec 16) (code : ResultCode) (data : List Byte) :
    s.SameWork (s.queueReply dest kind seq code data) := by
  obtain ⟨_, _, _, _, e⟩ := s.queueReply_frame dest kind seq code data
  rw [e]
  exact .quiet

theorem State.elect_quiet (s : State) : s.SameWork s.elect := by
  obtain ⟨_, _, e⟩ := s.elect_frame
  rw [e]
  exact .quiet

theorem State.writeBaseAll_quiet (s : State) (ps : List (Nat × Cell)) : s.SameWork (s.writeBaseAll ps) := by
  obtain ⟨_, _, e⟩ := s.writeBaseAll_frame ps
  rw [e]
  exact .quiet

theorem State.applyPaint_quiet (s : State) (v : Value) : s.SameWork (s.applyPaint v) := by
  obtain ⟨_, _, _, e⟩ := s.applyPaint_frame v
  rw [e]
  exact .quiet

theorem State.applyRestyle_quiet (s : State) : s.SameWork s.applyRestyle := by
  obtain ⟨_, _, e⟩ := s.applyRestyle_frame
  rw [e]
  exact .quiet

theorem State.applyBaseRun_quiet (s : State) (r : Run) : s.SameWork (s.applyBaseRun r) := by
  obtain ⟨_, _, _, e⟩ := s.applyBaseRun_touches r
  rw [e]
  exact .quiet

theorem State.applyTopRun_quiet (s : State) (r : Run) : s.SameWork (s.applyTopRun r) := by
  obtain ⟨_, _, _, e⟩ := s.applyTopRun_touches r
  rw [e]
  exact .quiet

theorem State.applyRepaint_quiet (s : State) : s.SameWork s.applyRepaint := by
  unfold State.applyRepaint
  split
  · exact .quiet
  · exact .refl s

theorem State.placeFrom_quiet (s : State) (c : CrawlText) (j : Nat) (gs : List Byte) :
    s.SameWork (State.placeFrom c j gs s) := by
  obtain ⟨_, _, e⟩ := s.placeFrom_frame c j gs
  rw [e]
  exact .quiet

/-- The reading that goes on while a unit is applied. -/
theorem State.SameWork.scanned (h : s.SameWork t) : s.SameWork (t.scanned s) := h.trans .quiet

/-- The dispatcher finishes with its frame. -/
theorem State.SameWork.finished (s : State) : s.SameWork { s with hand := .idle } :=
  ⟨⟨rfl, rfl, rfl, rfl, rfl, rfl, rfl⟩, rfl, rfl, fun _ _ => rfl⟩

/-- A dispatcher that is not free outside RUNNING waits with its frame. -/
theorem State.SameWork.waits (h : Hand) (hm : s.control.mode = .running ∨ s.hand ≠ .idle) :
    s.SameWork { s with hand := h } :=
  ⟨⟨rfl, rfl, rfl, rfl, rfl, rfl, rfl⟩, rfl, rfl, fun h1 h2 => absurd hm (by simp [h1, h2])⟩

/-! ## Slots -/

theorem State.slots_ne_nil {n : Nat} (h : s.slot n ≠ Slot.cold) : s.fields.slots ≠ [] := by
  intro e
  exact h (by simp [State.slot, e])

theorem State.slots_ne_nil_of_bound {n : Nat} (h : (s.slot n).bound = true) : s.fields.slots ≠ [] :=
  State.slots_ne_nil (n := n) fun e => by rw [e] at h; cases h

theorem storeGet_setSlot {P : Slot → Slot → Prop} (same : ∀ r, P r r) {n : Nat} {r : Slot} (h : P (s.slot n) r) (m : Nat) :
    P (s.slot m) (storeGet Slot.cold (storeSet Slot.cold s.fields.slots n r) m) := by
  rw [storeGet_set]
  split
  · next e => exact e ▸ h
  · exact same _

/-- A slot is set so that it offers the paint unit nothing new. -/
theorem State.setSlot_act {n : Nat} {r : Slot} (ne : s.control.mode ≠ .clearing ∨ s.hand ≠ .idle ∨ s.fields.slots ≠ [])
    (h : (s.slot n).KeepsShown r) (ho : (s.slot n).OffersNoMore r) : s.Act unit (s.setSlot n r) := by
  refine .slots _ (storeSet_wf _ _ _ _) (fun h1 h2 h3 => absurd ne (by simp [h1, h2, h3])) fun _ m => ⟨?_, ?_⟩
  · exact storeGet_setSlot (P := Slot.KeepsShown) Slot.KeepsShown.refl h m
  · exact storeGet_setSlot (P := Slot.OffersNoMore) Slot.OffersNoMore.refl ho m

/-- A slot is set so that it may offer the paint unit work. -/
theorem State.setSlot_opens {n : Nat} {r : Slot} (ne : s.fields.slots ≠ []) (h : (s.slot n).KeepsShown r) :
    s.Opens unit (s.setSlot n r) :=
  .offer _ (storeSet_wf _ _ _ _) (fun _ _ e => absurd e ne) fun _ m =>
    storeGet_setSlot (P := Slot.KeepsShown) Slot.KeepsShown.refl h m

/-! ## The paint unit and the field table -/

theorem State.moveHighlight_run (s : State) (n : Nat) : s.Course unit false (s.moveHighlight n) := by
  unfold State.moveHighlight
  split
  · next h =>
    have shown : s.slot n ≠ Slot.cold := fun e => s.moveDue_stage h (by rw [e]; rfl)
    exact .take (.opening .start (State.setSlot_opens (State.slots_ne_nil shown) fun _ hb hv => ⟨hb, hv, rfl⟩))
  · exact .start

theorem State.applyMatch_run {n : Nat} (hb : (s.slot n).bound = true) (sender : Nat) (v : Value) :
    s.Course unit true (s.applyMatch n sender v) := by
  cases hs : (s.slot n).suits v with
  | false =>
    rw [State.applyMatch_rejected s sender v hs]
    exact (s.bump_quiet _ _).run.weaken
  | true =>
    have ne := State.slots_ne_nil_of_bound hb
    have keep : ∀ stamp, (s.slot n).KeepsShown ((s.slot n).took sender v stamp) := fun _ _ hb hv => ⟨hb, hv, rfl⟩
    cases hp : (s.slot n).pending with
    | none =>
      rw [State.applyMatch_fresh s sender v hs hp]
      have stamped : s.SameWork { s with fields := { s.fields with stamp := s.fields.stamp + 1 } } := .quiet
      exact (State.Course.opening stamped.run (State.setSlot_opens
        (s := { s with fields := { s.fields with stamp := s.fields.stamp + 1 } }) ne (keep _))).then
          (State.bump_quiet _ _ _).run
    | some old =>
      rw [State.applyMatch_conflated s sender v hs hp]
      exact (State.Course.opening .start (State.setSlot_opens ne (keep _))).then
        ((State.bump_quiet _ _ _).trans (State.bump_quiet _ _ _)).run

theorem State.applyMatches_run (sender : Nat) (v : Value) (ns : List Nat)
    (hb : ∀ n ∈ ns, (s.slot n).bound = true) : s.Course unit true (s.applyMatches sender v ns) := by
  induction ns generalizing s with
  | nil => exact State.Course.start.weaken
  | cons n ns ih =>
    rw [State.applyMatches_cons]
    refine (State.applyMatch_run (hb n List.mem_cons_self) sender v).trans (ih fun m hm => ?_)
    rw [State.slot_applyMatch]
    split
    · exact hb m (List.mem_cons_of_mem _ hm)
    · exact hb m (List.mem_cons_of_mem _ hm)

theorem State.applyItem_run (s : State) (sender instrument : Nat) (it : Item) :
    s.Course unit true (s.applyItem sender instrument it) := by
  by_cases h : s.matchesOf sender instrument it.field = []
  · rw [State.applyItem_unmatched h]
    exact (s.bump_quiet _ _).run.weaken
  · rw [State.applyItem_matched h]
    have drawn : s.SameWork { s with freeCount := s.freeCount + 1 } := .quiet
    refine drawn.run.trans (State.applyMatches_run (s := { s with freeCount := s.freeCount + 1 }) sender it.value _
      fun n hn => ?_)
    exact s.bound_of_matchesOf ((s.inFreeOrder_perm _).mem_iff.1 hn)

theorem State.applyItems_run (s : State) (sender instrument : Nat) (items : List Item) :
    s.Course unit true (s.applyItems sender instrument items) := by
  induction items generalizing s with
  | nil => exact State.Course.start.weaken
  | cons it items ih => exact (s.applyItem_run sender instrument it).trans (ih _)

/-! ## Requests -/

theorem State.isRunning_iff (s : State) : s.isRunning = true ↔ s.control.mode = .running := by
  simp [State.isRunning]

theorem State.needRepaint_run (s : State) : s.Course unit false s.needRepaint := by
  unfold State.needRepaint
  split
  · exact .start
  · next hr =>
    rw [Bool.or_eq_true, not_or] at hr
    have hm : s.control.mode = .running := s.isRunning_iff.1 (by simpa using hr.2)
    split
    · exact (State.Act.presentCrawl hm).run
    · split
      · exact State.SameWork.run .quiet
      · exact .start

theorem State.takeTick_run (s : State) : s.Course unit false s.takeTick := by
  unfold State.takeTick
  split
  · have stepped : s.SameWork { (State.setTape { s with crawl := { s.crawl with tickDue := false } }
        (s.crawl.p.toNat % 1024) { s.tapeAt (s.crawl.p.toNat % 1024) with valid := false }) with
      crawl := { (State.setTape { s with crawl := { s.crawl with tickDue := false } }
        (s.crawl.p.toNat % 1024) { s.tapeAt (s.crawl.p.toNat % 1024) with valid := false }).crawl with
        p := s.crawl.p + 1 } } := .quiet
    exact stepped.run.then (State.needRepaint_run _)
  · exact .start

theorem State.adoptP_run (s : State) (p : BitVec 16) : s.Course unit false (s.adoptP p) := by
  unfold State.adoptP
  split
  · exact .start
  · have adopted : s.SameWork { s with crawl := { s.crawl with
        p := p, tape := storeMap TapeEntry.cold (TapeEntry.onAdopt p) s.crawl.tape } } := .quiet
    exact adopted.run.then (State.needRepaint_run _)

theorem State.adoptPhase_quiet (s : State) (phase : BitVec 16) : s.SameWork (s.adoptPhase phase) := by
  unfold State.adoptPhase
  split
  · exact .refl s
  · exact .quiet

theorem State.sendBeacon_run (s : State) : s.Course unit false s.sendBeacon := by
  unfold State.sendBeacon
  split
  · refine s.takeTick_run.then (State.SameWork.run ?_)
    exact State.SameWork.trans (t := { s.takeTick with
      group := { s.takeTick.group with countdown := s.takeTick.control.config.interval } }) .quiet
      (State.queueBeacon_quiet _ _)
  · exact .start

theorem State.takeBeacon_run (s : State) (f : RxFrame) : s.Course unit false (s.takeBeacon f) := by
  unfold State.takeBeacon
  split
  · exact s.countUnusable_quiet.run
  · split
    · exact ((s.takeTick_run.then (State.sendBeacon_run _)).then (State.adoptPhase_quiet _ _).run).then
        (State.adoptP_run _ _)
    · exact .start

theorem State.takeCrawl_run (s : State) (f : RxFrame) : s.Course unit false (s.takeCrawl f) := by
  unfold State.takeCrawl
  split
  · exact s.countUnusable_quiet.run
  · next c _ =>
    split
    · dsimp only
      split
      · exact (s.placeFrom_quiet c 0 c.glyphs).run.then (State.needRepaint_run _)
      · exact (s.placeFrom_quiet c 0 c.glyphs).run
    · exact s.countUnusable_quiet.run

theorem State.orphanCheck_run (s : State) : s.Course unit false s.orphanCheck := by
  unfold State.orphanCheck
  split
  · next h => exact (State.Act.presentOverlay _ (.inl (s.isRunning_iff.1 h.1)) h.2.1).run
  · exact .start

theorem State.takeOverlay_run (hm : s.control.mode = .running) (free : s.overlay.request = none) (f : RxFrame) :
    s.Course unit false (s.takeOverlay f) := by
  have reply : ∀ op level code, s.Course unit false (s.overlayReply f.sender f.seq op level code) :=
    fun _ _ _ => (s.queueReply_quiet _ _ _ _ _).run
  have present : ∀ req, s.Course unit false (s.presentOverlay req f.sender f.seq) := fun req =>
    (State.SameWork.waits (.overlayUnit f.sender f.seq) (.inl hm)).run.then
      (State.Act.presentOverlay (s := { s with hand := .overlayUnit f.sender f.seq }) req (.inl hm) free).run
  unfold State.takeOverlay
  split
  · exact s.countUnusable_quiet.run
  · next op _ =>
    unfold State.judgeOverlay
    cases op with
    | openLevel o =>
      dsimp only
      split
      · exact present _
      · exact reply _ _ _
    | close =>
      dsimp only
      split
      · exact reply _ _ _
      · exact present _
    | closeAll =>
      dsimp only
      split
      · exact reply _ _ _
      · exact present _

/-! ## The two orders of one event (log 11) -/

/-- The paint unit and another block take one event, in either order. -/
theorem State.Course.eitherTake {b : Bool} (h : s.Course unit b t) {other : State → State}
    (ho : ∀ u : State, u.Course unit false (other u)) : s.Course unit false (t.inEitherOrder State.paintTake other) ∧
      s.Course unit false (t.inEitherOrder other State.paintTake) := by
  have drawn : s.Course unit b { t with freeCount := t.freeCount + 1 } := h.then (State.SameWork.run .quiet)
  have first := (State.Course.take drawn).then (ho _)
  have last := State.Course.take (drawn.then (ho _))
  exact ⟨t.inEitherOrder_elim _ _ first last, t.inEitherOrder_elim _ _ last first⟩

theorem State.deliverSilence_run (s : State) (p : Nat) : s.Course unit false (s.deliverSilence p) := by
  unfold State.deliverSilence
  dsimp only
  split
  · next h =>
    exact ((State.Course.opening .start (.silence p (s.isRunning_iff.1 h.1) h.2)).eitherTake State.orphanCheck_run).1
  · exact .start

theorem State.deliverLapse_run (s : State) (p : Nat) : s.Course unit false (s.deliverLapse p) := by
  unfold State.deliverLapse
  dsimp only
  split
  · next h =>
    exact (State.Act.peer p { s.peer p with lapseDue := false } (s.isRunning_iff.1 h.1) Iff.rfl rfl).run.then
      (State.elect_quiet _).run
  · exact .start

/-! ## LAYOUT operations -/

/-- The dispatcher may carry out a LAYOUT operation whose fill is presented. -/
structure State.MayFill (s : State) : Prop where
  port : s.control.mode = .running ∨ s.control.mode = .unwinding ∨ s.port.holder = none
  hand : s.control.mode = .running ∨ s.hand ≠ .idle

theorem State.layoutOp_run (h : s.MayFill) (op : LayoutOp) : s.Course unit false (s.layoutOp op).1 := by
  have slots : s.control.mode ≠ .clearing ∨ s.hand ≠ .idle ∨ s.fields.slots ≠ [] :=
    h.hand.imp (fun e => by simp [e]) .inl
  cases op with
  | bind b =>
    simp only [State.layoutOp]
    split
    · next kind rule _ _ =>
      have bound : s.Act unit (s.setSlot b.slot (boundSlot (s.slot b.slot) b kind rule)) :=
        State.setSlot_act slots (fun v _ hv => nomatch hv) ⟨(fun _ hr => nomatch hr), fun _ _ hp => absurd rfl hp⟩
      exact (bound.run.then (State.SameWork.run (t := (s.setSlot b.slot (boundSlot (s.slot b.slot) b kind rule)).markOwner
        b.place.cells (.slot b.slot)) .quiet)).then (State.Act.presentText (s := (s.setSlot b.slot
          (boundSlot (s.slot b.slot) b kind rule)).markOwner b.place.cells (.slot b.slot)) _ h.port).run
    · exact .start
  | unbind n =>
    simp only [State.layoutOp]
    split
    · exact (State.SameWork.run (t := s.markOwner (s.slot n).place.cells .none) .quiet).then
        (State.Act.run (State.setSlot_act slots (fun v hb => nomatch hb) ⟨(fun hb => nomatch hb), (fun hb => nomatch hb)⟩))
    · exact .start
  | level n prio =>
    simp only [State.layoutOp]
    split
    · exact .start
    · split
      · next hb =>
        exact .take (.opening .start (State.setSlot_opens (State.slots_ne_nil_of_bound hb)
          fun _ hb hv => ⟨hb, hv, rfl⟩))
      · exact .start

theorem State.layoutAdvance_run (h : s.control.mode = .running ∨ s.hand ≠ .idle) (job : LayoutJob) :
    s.Course unit false (s.layoutAdvance job) := by
  unfold State.layoutAdvance
  split
  · exact ((State.SameWork.finished s).trans (State.queueReply_quiet _ _ _ _ _ _)).run
  · exact (State.SameWork.waits _ h).run

theorem State.layoutTake_run (h : s.MayFill) (job : LayoutJob) : s.Course unit false (s.layoutTake job) := by
  unfold State.layoutTake
  split
  · exact State.layoutAdvance_run h.hand job
  · next op _ _ =>
    dsimp only
    have done := State.layoutOp_run (unit := unit) h op
    have hand : (s.layoutOp op).1.control.mode = .running ∨ (s.layoutOp op).1.hand ≠ .idle := by
      obtain ⟨_, _, _, _, _, e⟩ := s.layoutOp_frame op
      rw [e]
      exact h.hand
    split
    · exact done.then (State.SameWork.waits _ hand).run
    · exact done.then (State.layoutAdvance_run hand _)

/-! ## Frames -/

theorem State.deliverSilence_taken (hm : s.control.mode = .running) (p : Nat) :
    ((s.deliverSilence p).peer p).silenceDue = false := by
  have running : s.isRunning = true := s.isRunning_iff.2 hm
  unfold State.deliverSilence
  dsimp only
  by_cases hd : (s.peer p).silenceDue = true
  · rw [if_pos ⟨running, hd⟩]
    generalize hs : (s.setPeer p { s.peer p with silenceDue := false }).mapSlots (Slot.onSilence p) = s1
    have taken : (s1.peer p).silenceDue = false := by
      rw [← hs]
      change ((s.setPeer p { s.peer p with silenceDue := false }).peer p).silenceDue = false
      rw [State.peer_setPeer_same]
    refine s1.inEitherOrder_elim (P := fun t => (t.peer p).silenceDue = false) _ _ ?_ ?_
    · obtain ⟨_, _, e⟩ := State.orphanCheck_frame (State.paintTake { s1 with freeCount := s1.freeCount + 1 })
      obtain ⟨_, _, _, e'⟩ := State.paintTake_frame { s1 with freeCount := s1.freeCount + 1 }
      rw [e, e']
      exact taken
    · obtain ⟨_, _, _, e⟩ := State.paintTake_frame (State.orphanCheck { s1 with freeCount := s1.freeCount + 1 })
      obtain ⟨_, _, e'⟩ := State.orphanCheck_frame { s1 with freeCount := s1.freeCount + 1 }
      rw [e, e']
      exact taken
  · rw [if_neg fun h => hd h.2]
    simpa using hd

theorem State.bumpIf_quiet (s : State) (c : Bool) (n : Nat) : s.SameWork (s.bumpIf c n) := by
  cases c <;> exact .quiet

theorem PeerEntry.heardOn_state (e : PeerEntry) (l : Lane) : (e.heardOn l).state = e.state := by cases l <;> rfl

theorem PeerEntry.heardOn_silenceDue (e : PeerEntry) (l : Lane) : (e.heardOn l).silenceDue = e.silenceDue := by
  cases l <;> rfl

/-- The silence event is not touched by the peer table's decision (R23 to R27). -/
theorem PeerEntry.judge_entry {e : PeerEntry} {seq : BitVec 16} {flag : Bool} (h : (e.judge seq flag).accepted = true) :
    (e.judge seq flag).entry.state = .live ∧ (e.judge seq flag).entry.silenceDue = e.silenceDue := by
  obtain ⟨entry, -⟩ := PeerEntry.judge_accepted h
  exact ⟨by rw [entry], by rw [entry]⟩

/-- The counters of an accepted frame (R24, R26). -/
def State.counted (s : State) (v : Verdict) : State := (s.bumpIf v.restartRun 34).bumpIf v.resync 33

theorem State.counted_quiet (s : State) (v : Verdict) : s.SameWork (s.counted v) :=
  (s.bumpIf_quiet _ _).trans (State.bumpIf_quiet _ _ _)

theorem State.counted_mapSlots (s : State) (v : Verdict) (f : Slot → Slot) :
    (s.counted v).mapSlots f = (s.mapSlots f).counted v := by
  obtain ⟨entry, accepted, restartRun, resync⟩ := v
  cases restartRun <;> cases resync <;> rfl

theorem State.deliverSilence_running (hm : s.control.mode = .running) (p : Nat) :
    (s.deliverSilence p).control.mode = .running := by
  rw [State.deliverSilence_control]
  exact hm

theorem State.acceptFrame_run (hm : s.control.mode = .running) (f : RxFrame) :
    s.Course unit false (s.acceptFrame f).1 := by
  refine (s.deliverSilence_run f.sender).then ?_
  have hm0 := State.deliverSilence_running hm f.sender
  have taken := State.deliverSilence_taken hm f.sender
  unfold State.acceptFrame
  dsimp only
  generalize s.deliverSilence f.sender = s0 at hm0 taken ⊢
  have state := (s0.peer f.sender).heardOn_state f.lane
  have due := (s0.peer f.sender).heardOn_silenceDue f.lane
  generalize (s0.peer f.sender).heardOn f.lane = e at state due ⊢
  split
  · next ha =>
    obtain ⟨live, same⟩ := PeerEntry.judge_entry ha
    generalize e.judge f.seq f.restart = v at live same ⊢
    have entryDue : v.entry.silenceDue = false := by rw [same, due, taken]
    change s0.Course unit false (if f.kind = kindBeacon ∧ f.payload.length = 4 then
      ((if e.isLive then (s0.setPeer f.sender v.entry).counted v
        else ((s0.setPeer f.sender v.entry).counted v).deliverReturn f.sender).setPeer f.sender
          (v.entry.onBeacon f.group)).elect
      else (if e.isLive then (s0.setPeer f.sender v.entry).counted v
        else ((s0.setPeer f.sender v.entry).counted v).deliverReturn f.sender))
    have heard : ∃ t, (if e.isLive then (s0.setPeer f.sender v.entry).counted v
        else ((s0.setPeer f.sender v.entry).counted v).deliverReturn f.sender) = t ∧ s0.Course unit false t ∧
          t.control.mode = .running ∧ t.peer f.sender = v.entry := by
      have counted := State.counted_quiet (s0.setPeer f.sender v.entry) v
      have entry : ((s0.setPeer f.sender v.entry).counted v).peer f.sender = v.entry := by
        unfold State.peer
        rw [counted.peers]
        exact storeGet_set_same _ _ _ _
      split
      · next hl =>
        have wasLive : (s0.peer f.sender).state = .live := by rw [← state]; simpa [PeerEntry.isLive] using hl
        have heard : s0.Act unit (s0.setPeer f.sender v.entry) :=
          .peer _ _ hm0 (by simp [live, wasLive]) (by rw [same, due])
        exact ⟨_, rfl, heard.run.then counted.run, counted.mode.trans hm0, entry⟩
      · obtain ⟨_, _, _, e3⟩ := State.deliverReturn_frame ((s0.setPeer f.sender v.entry).counted v) f.sender
        refine ⟨_, rfl, ?_, by rw [e3]; exact counted.mode.trans hm0, by rw [e3]; exact entry⟩
        unfold State.deliverReturn
        rw [State.counted_mapSlots]
        exact .take ((State.Course.opening .start (.returned f.sender v.entry hm0 live entryDue)).then
          (State.counted_quiet _ v).run)
    obtain ⟨t, e, course, running, entry⟩ := heard
    rw [e]
    split
    · refine (course.then (State.Act.run (.peer _ _ running ?_ ?_))).then (State.elect_quiet _).run
      · rw [entry]; exact Iff.rfl
      · rw [entry]; rfl
    · exact course
  · have heard : s0.Act unit (s0.setPeer f.sender e) := .peer _ _ hm0 (by rw [state]) due
    exact heard.run.then (State.bump_quiet _ _ _).run

theorem State.intake_run (hm : s.control.mode = .running) (f : RxFrame) : s.Course unit false (s.intake f).1 := by
  unfold State.intake
  split
  · exact State.SameWork.run .quiet
  · exact State.acceptFrame_run hm f

/-- A row of the dispatcher does what its handler does, while RUNNING. -/
theorem State.dispatch_run (s : State) (takes : RxFrame → Bool) {handler : RxFrame → State → State}
    (h : ∀ (f : RxFrame) (u : State), u.control.mode = .running → u.Course unit false (handler f u)) :
    s.Course unit false (s.dispatch takes handler) := by
  unfold State.dispatch
  split
  · next hd =>
    have hm : s.control.mode = .running := s.isRunning_iff.1 hd.1
    split
    · exact .start
    · next f rest _ =>
      split
      · have popped : s.SameWork { s with frameQueue := rest } := .quiet
        have taken := popped.run.then (State.intake_run (unit := unit) (s := { s with frameQueue := rest }) hm f)
        obtain ⟨_, _, _, _, _, _, _, _, _, _, e⟩ := State.intake_frame { s with frameQueue := rest } f
        dsimp only
        split
        · exact taken.then (h f _ (by rw [e]; exact hm))
        · exact taken
      · exact .start
  · exact .start

end Sys2Proof.Machine
end

section
/-!
PROOFS. Every command is a chain of acts on the work of the painter; with it the laws of R101, R78 and R53.
-/
namespace Sys2Proof.Machine

variable {s t u : State} {unit : Bool}

/-! ## Resets -/

theorem State.withdraw_withdraws (s : State) : s.Withdraws s.withdraw where
  port := rfl
  waiting w hw := by cases w <;> simp [State.outstanding, State.withdraw, hw]
  granted w hw := by cases w <;> simp [State.outstanding, State.withdraw, hw]
  request hw := by simp [State.withdraw, hw]
  depth := rfl
  hand := rfl

/-- What is withdrawn stays so through a change of what the port does not see. -/
theorem State.Withdraws.congr (h : s.Withdraws t) (port : u.port = t.port := by rfl)
    (overlay : u.overlay = t.overlay := by rfl) (crawl : u.crawl.request = t.crawl.request := by rfl)
    (paint : u.paint = t.paint := by rfl) (text : u.text = t.text := by rfl) (hand : u.hand = t.hand := by rfl) :
    s.Withdraws u := by
  have same := State.outstanding_congr (s := t) (t := u) (by rw [overlay]) crawl paint text
  exact { port := port.trans h.port
          waiting := fun w hw => (same w).trans (h.waiting w hw)
          granted := fun w hw => (same w).trans (h.granted w hw)
          request := fun hw => by rw [overlay]; exact h.request hw
          depth := by rw [overlay]; exact h.depth
          hand := hand.trans h.hand }

theorem State.enterHeld_run (s : State) (byPower : Bool) : s.Course unit false (s.enterHeld byPower) :=
  State.Act.run (.stop _ rfl s.withdraw_withdraws.congr rfl (.inl rfl))

theorem State.coldStart_run (hm : s.control.mode = .held) : s.Course unit false s.coldStart :=
  State.Act.run (.stop _ hm s.withdraw_withdraws.congr rfl (.inr rfl))

theorem State.heldValues_run (hm : s.control.mode = .held) : s.Course unit false s.heldValues := by
  unfold State.heldValues
  split
  · exact State.coldStart_run hm
  · exact .start

theorem State.beginLoading_run (hm : s.control.mode = .held) (cause : Cause) (running : Bool) :
    s.Course unit false (s.beginLoading cause running) :=
  State.Act.run (.load _ hm rfl .quiet)

theorem State.enterRunning_run (from_ : s.control.mode = .clearing ∨ s.control.mode = .unwinding ∧ s.port.holder = none) :
    s.Course unit false s.enterRunning := by
  unfold State.enterRunning
  dsimp only
  refine (State.Course.eitherTake (State.Course.opening .start (.enter _ ?_ ?_ from_)) State.needRepaint_run).2
  · obtain ⟨_, _, e⟩ := State.elect_frame { s with
      control := { s.control with mode := .running, coldCause := none }, portA := s.portA.start, portB := s.portB.start
      group := { s.group with countdown := s.control.config.interval } }
    rw [e]
  · exact State.SameWork.trans (t := { s with
      control := { s.control with mode := .running, coldCause := none }, portA := s.portA.start, portB := s.portB.start
      group := { s.group with countdown := s.control.config.interval } }) .quiet (State.elect_quiet _)

theorem State.warmProgress_run (hm : s.control.mode = .unwinding) : s.Course unit false s.warmProgress := by
  unfold State.warmProgress
  split
  · next h => exact (State.Act.presentOverlay _ (.inr hm) h.1).run
  · split
    · next h => exact State.enterRunning_run (.inr ⟨hm, h⟩)
    · exact .start

theorem State.afterUnit_run (s : State) : s.Course unit false s.afterUnit := by
  unfold State.afterUnit
  split
  · next h => exact State.warmProgress_run h
  · exact .start

theorem State.warmActions_run (s : State) (cause : Cause) (running : Bool) :
    s.Course unit false (s.warmActions cause running) := by
  refine s.takeTick_run.then (State.Act.run ?_)
  unfold State.warmActions
  generalize s.takeTick = w
  obtain ⟨m, e⟩ := w.withdraw.fieldWarmReset_frame
  have slot := fun hw n => w.withdraw.slot_fieldWarmReset hw n
  have sorted : storeWf Slot.cold w.fields.slots = true → storeWf Slot.cold w.withdraw.fieldWarmReset.fields.slots = true := by
    intro hw
    unfold State.fieldWarmReset
    dsimp only
    split
    · exact storeSet_wf _ _ _ _ (storeMap_wf _ _ _ hw)
    · exact storeMap_wf _ _ _ hw
  refine .unwind _ rfl ?_ rfl (fun hp => ?_) (fun hw n hb hv => ?_) sorted
  · rw [e]
    exact w.withdraw_withdraws.congr
  · rw [e]
    exact if_pos hp
  · have hb : (w.withdraw.fieldWarmReset.slot n).bound = true := hb
    have hv : (w.withdraw.fieldWarmReset.slot n).shown.isSome = true := hv
    change (w.withdraw.fieldWarmReset.slot n).stale = true ∨ _
    rcases slot hw n with ⟨-, hl⟩ | ⟨h, -⟩
    · right
      have hp : w.port.holder = some .paint := hl.1
      exact State.leftOut_congr hl rfl (by simp [State.withdraw, hp])
    · rw [h] at hb hv ⊢
      have hb : (w.withdraw.slot n).bound = true := hb
      have hv : (w.withdraw.slot n).shown.isSome = true := hv
      exact .inl (by simp [Slot.onWarmReset, hb, hv])

theorem State.warmReset_run (s : State) (cause : Cause) (running : Bool) :
    s.Course unit false (s.warmReset cause running) :=
  (s.warmActions_run cause running).then (State.warmProgress_run rfl)

/-! ## The ends of the write units -/

theorem State.paintEnded_run {o : PaintOp} (ho : s.paint = some o) (hp : s.port.holder = some .paint) :
    s.Course true false (s.paintEnded o.slotOf) :=
  (State.Course.take (.opening .start (.finishPaint o rfl ho hp))).then (State.afterUnit_run _)

theorem State.endPaint_run (hp : s.port.holder = some .paint) : s.Course true false s.endPaint := by
  unfold State.endPaint
  split
  · next n g v src st ho =>
    have applied := (s.applyPaint_quiet v).scanned
    exact applied.run.then (State.paintEnded_run (o := .paint n g v src st) (applied.paint.trans ho)
      (by rw [applied.port]; exact hp))
  · exact .start

theorem State.endRestyle_run (hp : s.port.holder = some .paint) : s.Course true false s.endRestyle := by
  unfold State.endRestyle
  split
  · next n g ho =>
    have applied := s.applyRestyle_quiet.scanned
    exact applied.run.then (State.paintEnded_run (o := .restyle n g) (applied.paint.trans ho)
      (by rw [applied.port]; exact hp))
  · exact .start

/-- The frame in hand can go on at the end of a text unit: while RUNNING or UNWINDING, or with nothing in hand, or with
nothing waiting behind the unit. -/
def State.Orderly (s : State) : Prop := s.control.mode = .running ∨ s.control.mode = .unwinding ∨ s.hand = .idle ∨
  ∀ w, s.outstanding w = true → s.port.holder = some w

theorem State.Orderly.congr (h : s.Orderly) (same : s.SameWork t) (hand : t.hand = s.hand) : t.Orderly := by
  have out := State.outstanding_congr same.request same.crawl same.paint same.text
  unfold State.Orderly
  rw [same.mode, hand, same.port]
  exact h.imp id (.imp id (.imp id fun h w hw => h w (by rw [← out]; exact hw)))

theorem State.textHanded_run (h : s.control.mode = .running ∨ s.control.mode = .unwinding ∨ s.hand = .idle ∨
    s.port.holder = none) : s.Course unit false s.textHanded := by
  unfold State.textHanded
  split
  · exact (State.SameWork.finished s).run
  · next job hj =>
    refine State.layoutTake_run ⟨h.imp id (.imp id fun h => h.resolve_left ?_), .inr ?_⟩ job
    · rw [hj]; nofun
    · rw [hj]; nofun
  · exact .start

theorem State.textEnded_run (ho : s.Orderly) (hp : s.port.holder = some .text) : s.Course true false s.textEnded := by
  have freed : s.Frees .text { s with text := none } :=
    ⟨rfl, rfl, fun v hv => by cases v <;> first | rfl | exact absurd rfl hv, rfl, rfl, rfl, rfl⟩
  rw [State.textEnded_eq]
  refine ((State.Act.finish .text _ rfl nofun hp freed).run.then (State.textHanded_run ?_)).then (State.afterUnit_run _)
  obtain ⟨_, _, e⟩ := State.release_frame { s with text := none }
  have hand : (State.release { s with text := none }).hand = s.hand := by rw [e]
  rw [State.release_control, hand, State.release_holder]
  refine ho.imp id (.imp id (.imp id fun alone => ?_))
  split
  · rfl
  · by_contra hw
    obtain ⟨w, hw⟩ := Option.ne_none_iff_exists'.1 hw
    have out := State.nextWaiting_some hw
    by_cases e : w = .text
    · subst e; cases out
    · rw [freed.others w e] at out
      have := alone w out
      rw [hp] at this
      exact e (Option.some.inj this).symm

theorem State.textUnit_run (ho : s.Orderly) (hp : s.port.holder = some .text) (applied : s.SameWork t)
    (hand : t.hand = s.hand) : s.Course true false ((t.scanned s).textEnded) := by
  have done := applied.scanned
  exact done.run.then (State.textEnded_run (ho.congr done hand) (by rw [done.port]; exact hp))

theorem State.endFill_run (ho : s.Orderly) (hp : s.port.holder = some .text) : s.Course true false s.endFill := by
  unfold State.endFill State.applyFill
  split
  · next place base _ =>
    refine State.textUnit_run ho hp (s.writeBaseAll_quiet _) ?_
    obtain ⟨_, _, e⟩ := s.writeBaseAll_frame _
    rw [e]
  · exact .start

theorem State.endBaseRun_run (ho : s.Orderly) (hp : s.port.holder = some .text) : s.Course true false s.endBaseRun := by
  unfold State.endBaseRun
  split
  · next r _ =>
    refine State.textUnit_run ho hp (s.applyBaseRun_quiet r) ?_
    obtain ⟨_, _, _, e⟩ := s.applyBaseRun_touches r
    rw [e]
  · exact .start

theorem State.endTopRun_run (ho : s.Orderly) (hp : s.port.holder = some .text) : s.Course true false s.endTopRun := by
  unfold State.endTopRun
  split
  · next r _ =>
    refine State.textUnit_run ho hp (s.applyTopRun_quiet r) ?_
    obtain ⟨_, _, _, e⟩ := s.applyTopRun_touches r
    rw [e]
  · exact .start

/-- The overlay unit's unit has ended: what it wrote, and the port passed on. -/
theorem State.overlayFreed_run (hp : s.port.holder = some .overlay) (mode : t.control.mode = s.control.mode)
    (crawl : t.crawl.request = s.crawl.request) (paint : t.paint = s.paint) (text : t.text = s.text)
    (slots : t.fields.slots = s.fields.slots) (peers : t.peers = s.peers) (hand : t.hand = s.hand) :
    s.Course true false t.overlayFreed := by
  refine State.Act.run (.finish .overlay { t with overlay := { t.overlay with request := none } } rfl nofun hp ?_)
  refine ⟨mode, rfl, fun v hv => ?_, paint, slots, peers, hand⟩
  cases v
  · exact absurd rfl hv
  · exact crawl
  · exact congrArg Option.isSome paint
  · exact congrArg Option.isSome text

theorem State.answerOverlay_quiet (s : State) (op level : Nat) : s.SameWork (s.answerOverlay op level) := by
  unfold State.answerOverlay
  split
  · exact (State.SameWork.finished s).trans (State.queueReply_quiet _ _ _ _ _ _)
  · exact .refl s

theorem State.overlayEnded_run (freed : s.Course true false t.overlayFreed) (op level : Nat) :
    s.Course true false (t.overlayEnded op level) :=
  ((freed.then (State.answerOverlay_quiet _ op level).run).then (State.orphanCheck_run _)).then (State.afterUnit_run _)

theorem State.closeTops_freed (hp : s.port.holder = some .overlay) (n : Nat) :
    s.Course true false ((State.closeTops n s).scanned s).overlayFreed := by
  obtain ⟨_, _, _, _, e⟩ := s.closeTops_frame n
  exact State.overlayFreed_run hp (by rw [e]; rfl) (by rw [e]; rfl) (by rw [e]; rfl) (by rw [e]; rfl) (by rw [e]; rfl)
    (by rw [e]; rfl) (by rw [e]; rfl)

theorem State.endOpen_run (hp : s.port.holder = some .overlay) : s.Course true false s.endOpen := by
  unfold State.endOpen
  split
  · next op requester _ =>
    exact State.overlayEnded_run (State.overlayFreed_run (t := (s.applyOpen op requester).scanned s) hp rfl rfl rfl rfl
      rfl rfl rfl) _ _
  · exact .start

theorem State.endClose_run (hp : s.port.holder = some .overlay) : s.Course true false s.endClose := by
  unfold State.endClose
  split
  · exact State.overlayEnded_run (State.closeTops_freed hp 1) _ _
  · exact .start

theorem State.endCloseAll_run (hp : s.port.holder = some .overlay) : s.Course true false s.endCloseAll := by
  unfold State.endCloseAll
  split
  · exact State.overlayEnded_run (State.closeTops_freed hp _) _ _
  · exact .start

theorem State.endOrphan_run (hp : s.port.holder = some .overlay) : s.Course true false s.endOrphan := by
  have freed : s.Course true false (s.applyOrphan.scanned s).overlayFreed := by
    unfold State.applyOrphan
    split
    · exact State.closeTops_freed hp _
    · exact State.closeTops_freed hp 0
  unfold State.endOrphan
  split
  · exact (freed.then (State.orphanCheck_run _)).then (State.afterUnit_run _)
  · exact .start

theorem State.endUnwinding_run (hp : s.port.holder = some .overlay) : s.Course true false s.endUnwinding := by
  unfold State.endUnwinding
  split
  · exact (State.closeTops_freed hp _).then (State.afterUnit_run _)
  · exact .start

theorem State.endRepaint_run (hp : s.port.holder = some .crawl) : s.Course true false s.endRepaint := by
  have applied := s.applyRepaint_quiet.scanned
  unfold State.endRepaint
  dsimp only
  generalize s.applyRepaint.scanned s = w at applied ⊢
  have freed : w.Frees .crawl { w with crawl := { w.crawl with request := false, repeatMark := false } } :=
    ⟨rfl, rfl, fun v hv => by cases v <;> first | rfl | exact absurd rfl hv, rfl, rfl, rfl, rfl⟩
  refine State.Course.then ?_ (State.afterUnit_run _)
  have passed := applied.run.then (State.Act.finish .crawl _ rfl nofun (by rw [applied.port]; exact hp) freed).run
  split
  · exact passed.then (State.needRepaint_run _)
  · exact passed

theorem State.endHeldUnit_run (ho : s.port.holder = some .text → s.Orderly) : s.Course true false s.endHeldUnit := by
  unfold State.endHeldUnit
  split
  · exact .start
  · next hp =>
    split
    · exact State.endRestyle_run hp
    · exact State.endPaint_run hp
  · next hp =>
    split
    · exact State.endBaseRun_run (ho hp) hp
    · exact State.endTopRun_run (ho hp) hp
    · exact State.endFill_run (ho hp) hp
  · next hp => exact State.endRepaint_run hp
  · next hp =>
    split
    · exact State.endOpen_run hp
    · exact State.endClose_run hp
    · exact State.endCloseAll_run hp
    · exact State.endOrphan_run hp
    · exact State.endUnwinding_run hp

end Sys2Proof.Machine
end

section
/-!
PROOFS. Every command is a chain of acts on the work of the painter (`exec_run`); with it the laws of R101, R78 and R53
over every step.
-/
namespace Sys2Proof.Machine

variable {s t u : State} {unit : Bool}

/-! ## Rows of the dispatcher -/

theorem takeQuote_run (f : RxFrame) (s : State) : s.Course unit false (State.takeQuote f s) := by
  unfold State.takeQuote
  split
  · exact s.countUnusable_quiet.run
  · exact .take (s.applyItems_run _ _ _)

theorem takePresence_run (f : RxFrame) (s : State) : s.Course unit false (takePresence f s) := by
  unfold takePresence
  split
  · exact .start
  · exact s.countUnusable_quiet.run

theorem State.mayFill_running (hm : s.control.mode = .running) : s.MayFill := ⟨.inl hm, .inl hm⟩

theorem takeLayout_run (hm : s.control.mode = .running) (f : RxFrame) : s.Course unit false (takeLayout f s) := by
  unfold takeLayout
  split
  · exact s.countUnusable_quiet.run
  · exact State.layoutTake_run (State.mayFill_running hm) _

theorem takePaintFrame_run (hm : s.control.mode = .running) (f : RxFrame) :
    s.Course unit false (takePaintFrame f s) := by
  unfold takePaintFrame
  split
  · exact s.countUnusable_quiet.run
  · exact (State.SameWork.waits (.paint f) (.inl hm)).run.then
      (State.Act.presentText (s := { s with hand := .paint f }) _ (.inl hm)).run

theorem handOverlay_run (hm : s.control.mode = .running) (f : RxFrame) : s.Course unit false (handOverlay f s) := by
  unfold handOverlay
  split
  · exact (State.SameWork.waits _ (.inl hm)).run
  · next h => exact State.takeOverlay_run hm (by simpa using h) f

theorem State.layoutRow_run (s : State) (code : Nat) : s.Course unit false (s.layoutRow code) := by
  unfold State.layoutRow
  split
  · split
    · split
      · next h => exact State.layoutTake_run (State.mayFill_running (s.isRunning_iff.1 h.1)) _
      · exact .start
    · exact .start
  · exact s.dispatch_run _ fun f u hm => takeLayout_run hm f

theorem State.overlayRow_run (s : State) (code : Nat) : s.Course unit false (s.overlayRow code) := by
  unfold State.overlayRow
  split
  · split
    · next h =>
      exact (State.SameWork.finished s).run.then
        (State.takeOverlay_run (s := { s with hand := .idle }) (s.isRunning_iff.1 h.1) h.2.1 _)
    · exact .start
  · exact s.dispatch_run _ fun f u hm => handOverlay_run hm f

/-- A frame whose answer is queued, or that is counted as unusable. -/
theorem State.answered_run (s : State) (f : RxFrame) (code : ResultCode) (data : List Byte) :
    s.Course unit false (s.answerQuery f code data) := (s.queueReply_quiet _ _ _ _ _).run

theorem takeStatus_run (f : RxFrame) (s : State) : s.Course unit false (takeStatus f s) := by
  unfold takeStatus
  split
  · exact s.answered_run _ _ _
  · exact s.countUnusable_quiet.run

theorem takeCapture_run (f : RxFrame) (s : State) : s.Course unit false (takeCapture f s) := by
  unfold takeCapture
  split
  · exact (State.SameWork.run (t := s.captureBanks) .quiet).then (State.answered_run _ _ _ _)
  · exact s.countUnusable_quiet.run

theorem takeCounters_run (f : RxFrame) (s : State) : s.Course unit false (takeCounters f s) := by
  unfold takeCounters
  split
  · split
    · exact s.answered_run _ _ _
    · exact s.answered_run _ _ _
  · exact s.countUnusable_quiet.run

theorem takeSlot_run (f : RxFrame) (s : State) : s.Course unit false (takeSlot f s) := by
  unfold takeSlot
  split
  · dsimp only
    split
    · exact (State.SameWork.run (t := { s with freeCount := s.freeCount + 1 }) .quiet).then (State.answered_run _ _ _ _)
    · exact s.answered_run _ _ _
  · exact s.countUnusable_quiet.run

theorem takeRestart_run (running : Bool) (f : RxFrame) (s : State) : s.Course unit false (takeRestart running f s) := by
  unfold takeRestart
  split
  · exact s.warmReset_run _ _
  · exact s.countUnusable_quiet.run

theorem takeBadRequest_run (f : RxFrame) (s : State) : s.Course unit false (takeBadRequest f s) := by
  unfold takeBadRequest
  split
  · exact s.countUnusable_quiet.run
  · exact s.answered_run _ _ _

/-! ## Lanes -/

theorem execLane_quiet (c : Instr) (lane : Lane)
    (hc : c = .carrierArrival lane ∨ c = .jabberCutoff lane ∨ c = .gapExpiry lane ∨
      c = .transmitComplete lane ∨ c = .holdGapExpiry lane ∨ c = .collision lane ∨ c = .jamEnd lane ∨
      c = .backoffExpiry lane ∨ c = .carrierDrop lane) (h : exec c s = .next t) : s.SameWork t := by
  have goes : ∀ {u : State}, s.SameWork u → goOn u = .next t → s.SameWork t := fun h e => by cases e; exact h
  have stays : goOn s = .next t → s.SameWork t := goes (.refl s)
  have port : ∀ p, goOn (s.setLanePort lane p) = .next t → s.SameWork t := fun p => goes (s.setLanePort_quiet lane p)
  rcases hc with rfl | rfl | rfl | rfl | rfl | rfl | rfl | rfl | rfl <;> revert h
  · change execCarrierArrival lane s = _ → _
    unfold execCarrierArrival
    dsimp only
    split
    · exact stays
    · exact port _
  · change execJabberCutoff lane s = _ → _
    unfold execJabberCutoff
    dsimp only
    split
    · exact goes ((s.setLanePort_quiet lane _).trans (State.bump_quiet _ _ _))
    · exact stays
  · change execGapExpiry lane s = _ → _
    unfold execGapExpiry
    dsimp only
    split
    · exact port _
    · exact stays
  · change execTransmitComplete lane s = _ → _
    unfold execTransmitComplete
    dsimp only
    split
    · exact goes ((s.markSend_quiet _ _ _).trans (State.afterSent_quiet _ _))
    · exact stays
  · change execHoldGapExpiry lane s = _ → _
    unfold execHoldGapExpiry
    dsimp only
    split
    · exact port _
    · exact stays
  · change execCollision lane s = _ → _
    unfold execCollision
    dsimp only
    have counted : s.SameWork { s.bump (laneCounter lane 11) 1 with freeCount := s.freeCount + 1 } := .quiet
    split
    · split
      · exact goes (counted.trans (((State.markSend_quiet _ lane _ .abandoned).trans
          (State.bump_quiet _ (laneCounter lane 12) 1)).trans (State.setLanePort_quiet _ lane _)))
      · exact goes (counted.trans (State.setLanePort_quiet _ lane _))
    · exact stays
  · change execJamEnd lane s = _ → _
    unfold execJamEnd
    dsimp only
    split
    · exact goes ((s.setLanePort_quiet lane _).trans (State.portTake_quiet _ _))
    · split
      · exact goes ((s.setLanePort_quiet lane _).trans (State.contend_quiet _ _))
      · exact port _
    · exact stays
  · change execBackoffExpiry lane s = _ → _
    unfold execBackoffExpiry
    split
    · exact goes (s.contend_quiet _)
    · exact stays
  · change execCarrierDrop lane s = _ → _
    unfold execCarrierDrop
    dsimp only
    split
    · exact goes (s.dropCarrier_quiet _)
    · exact stays

/-- A chain of which the command's end is the last state. -/
theorem goOn_run (h : s.Course unit false u) : ∀ t, goOn u = .next t → s.Course unit false t := fun t e => by
  cases e
  exact h

theorem execFrameEnd_run (lane : Lane) (times rest : List BitTime) (h : execFrameEnd lane times rest s = .next t) :
    s.Course unit false t := by
  revert h
  unfold execFrameEnd
  split
  · intro h; cases h
  · split
    · dsimp only
      have counted := (s.dropCarrier_quiet lane).trans
        (State.countReception_quiet _ lane (classify (lineBytes times) (lineViolation (times ++ rest)))
          (lineBytes times).length)
      split
      · exact goOn_run (counted.trans (State.takeGood_quiet _ _ _)).run t
      · exact goOn_run counted.run t
    · exact goOn_run .start t

/-! ## Frame starts and resets -/

theorem State.foldl_run {α : Type} {g : State → α → State} (h : ∀ (t : State) (x : α), t.Course unit false (g t x))
    (s : State) (xs : List α) : s.Course unit false (xs.foldl g s) := by
  induction xs generalizing s with
  | nil => exact .start
  | cons x xs ih => exact (h s x).then (ih _)

theorem State.takeRaised_run (s : State) : s.Course unit false s.takeRaised := by
  unfold State.takeRaised
  dsimp only
  split
  · exact ((((State.foldl_run State.deliverSilence_run s _).then
      (State.foldl_run State.deliverLapse_run _ _)).then
      (State.foldl_run State.moveHighlight_run _ _)).then (State.takeTick_run _)).then (State.sendBeacon_run _)
  · split
    · exact .start
    · exact State.foldl_run State.moveHighlight_run s _

theorem State.ageHighlights_act (s : State) : s.Act unit (s.mapSlots Slot.ageHighlight) := by
  refine .slots _ (storeMap_wf _ _ _) (fun _ _ h => by rw [h]; rfl) fun hw n => ?_
  rw [storeGet_map _ _ _ _ (by rfl) hw]
  exact ⟨fun _ hb hv => ⟨hb, hv, rfl⟩, ⟨fun hb hr => ⟨hb, hr⟩, fun hb hp hv => ⟨hb, hp, hv⟩⟩⟩

theorem execFrameStart_run (h : execFrameStart s = .next t) : s.Course unit false t := by
  revert h
  unfold execFrameStart
  dsimp only
  have started : s.Course unit false s.takeRaised.scanFrameStart := s.takeRaised_run.then (State.SameWork.run .quiet)
  split
  · next hr =>
    have hm : s.takeRaised.scanFrameStart.control.mode = .running :=
      (congrArg Control.mode s.takeRaised_control).trans (s.isRunning_iff.1 hr)
    exact goOn_run (((started.then (State.Act.agePeers hm).run).then (State.ageHighlights_act _).run).then
      (State.SameWork.run .quiet)) t
  · split
    · exact goOn_run started t
    · exact goOn_run (started.then (State.ageHighlights_act _).run) t

theorem execPowerOn_run (h : execPowerOn s = .next t) : s.Course unit false t := by
  cases h
  exact ((s.enterHeld_run true).then (State.SameWork.run (t := { s.enterHeld true with
    control := { (s.enterHeld true).control with
      clock := .backup, coldCause := some ((s.enterHeld true).control.coldCause.getD .power) } }) .quiet)).then
    (State.heldValues_run rfl)

theorem execHeldEnd_run (coldLow running : Bool) (h : execHeldEnd coldLow running s = .next t) :
    s.Course unit false t := by
  revert h
  unfold execHeldEnd
  split
  · next hm =>
    have cold : ∀ cause, s.Course unit false (s.coldStart.beginLoading cause running) := fun cause =>
      (State.coldStart_run hm).then (State.beginLoading_run (s := s.coldStart) hm cause running)
    split
    · exact goOn_run (State.beginLoading_run hm _ _) t
    · exact goOn_run (cold _) t
    · split
      · exact goOn_run (cold _) t
      · exact goOn_run (s.warmReset_run _ _) t
  · exact goOn_run .start t

theorem execLoadingComplete_run (image : List Byte) (ho : s.port.holder = some .text → s.Orderly)
    (h : execLoadingComplete image s = .next t) : s.Course true false t := by
  revert h
  unfold execLoadingComplete
  split
  · intro h; cases h
  · split
    · next hm =>
      have loading : s.endHeldUnit.control.mode = .loading := by
        rw [State.endHeldUnit_mode (by simp [hm]), hm]
      intro e
      cases e
      refine (State.endHeldUnit_run ho).then (State.Act.run (.clear _ rfl rfl rfl ?_ rfl rfl ?_ rfl))
      · intro w
        cases w <;> rfl
      · rw [loading]
        nofun
    · exact goOn_run .start t

theorem execReferenceStop_run (h : execReferenceStop s = .next t) : s.Course unit false t := by
  revert h
  unfold execReferenceStop
  split
  · dsimp only
    have stopped : s.SameWork ({ s with control := { s.control with clock := .backup } } : State).beginInhibit := .quiet
    split
    · exact goOn_run (stopped.trans (State.elect_quiet _)).run t
    · exact goOn_run stopped.run t
  · exact goOn_run .start t

/-! ## Every command -/

/-- The rows that end the unit that holds the port, LOADING_COMPLETE among them (log 13). -/
def endsUnit : Instr → Bool
  | .bindFill | .baseRun | .topRun | .openUnit | .closeUnit | .closeAllUnit | .orphanClose | .unwinding
  | .paintCompletion | .restyleCompletion | .crawlRepaint | .loadingComplete _ => true
  | _ => false

theorem execUnit_run {w : Writer} (hr : s.port.holder = some w → s.Course unit false u)
    (e : (if s.port.holder = some w then goOn u else goOn s) = .next t) : s.Course unit false t := by
  revert e
  split
  · next hp => exact goOn_run (hr hp) t
  · exact goOn_run .start t

theorem exec_run (c : Instr)
    (hu : endsUnit c = true → unit = true ∧ (s.port.holder = some .text → s.Orderly)) (h : exec c s = .next t) :
    s.Course unit false t := by
  cases c with
  | carrierArrival lane | jabberCutoff lane | gapExpiry lane | transmitComplete lane | holdGapExpiry lane
  | collision lane | jamEnd lane | backoffExpiry lane | carrierDrop lane =>
    exact (execLane_quiet _ lane (by simp) h).run
  | frameEnd lane times rest => exact execFrameEnd_run lane times rest h
  | quote => exact goOn_run (s.dispatch_run _ fun f u _ => takeQuote_run f u) t h
  | presence => exact goOn_run (s.dispatch_run _ fun f u _ => takePresence_run f u) t h
  | unusableFrame => exact goOn_run (s.dispatch_run _ fun _ u _ => u.countUnusable_quiet.run) t h
  | bind | unbind | level => exact goOn_run (s.layoutRow_run _) t h
  | paintBase | paintTop => exact goOn_run (s.dispatch_run _ fun f u hm => takePaintFrame_run hm f) t h
  | overlayOpen | overlayClose | overlayCloseAll => exact goOn_run (s.overlayRow_run _) t h
  | bindFill =>
    obtain ⟨rfl, ho⟩ := hu rfl
    exact execUnit_run (fun hp => State.endFill_run (ho hp) hp) h
  | baseRun =>
    obtain ⟨rfl, ho⟩ := hu rfl
    exact execUnit_run (fun hp => State.endBaseRun_run (ho hp) hp) h
  | topRun =>
    obtain ⟨rfl, ho⟩ := hu rfl
    exact execUnit_run (fun hp => State.endTopRun_run (ho hp) hp) h
  | openUnit =>
    obtain ⟨rfl, -⟩ := hu rfl
    exact execUnit_run State.endOpen_run h
  | closeUnit =>
    obtain ⟨rfl, -⟩ := hu rfl
    exact execUnit_run State.endClose_run h
  | closeAllUnit =>
    obtain ⟨rfl, -⟩ := hu rfl
    exact execUnit_run State.endCloseAll_run h
  | orphanClose =>
    obtain ⟨rfl, -⟩ := hu rfl
    exact execUnit_run State.endOrphan_run h
  | unwinding =>
    obtain ⟨rfl, -⟩ := hu rfl
    exact execUnit_run State.endUnwinding_run h
  | paintCompletion =>
    obtain ⟨rfl, -⟩ := hu rfl
    exact execUnit_run State.endPaint_run h
  | restyleCompletion =>
    obtain ⟨rfl, -⟩ := hu rfl
    exact execUnit_run State.endRestyle_run h
  | crawlRepaint =>
    obtain ⟨rfl, -⟩ := hu rfl
    exact execUnit_run State.endRepaint_run h
  | crawl =>
    exact goOn_run (s.dispatch_run _ fun f u _ => u.takeTick_run.then (State.takeCrawl_run _ f)) t h
  | beacon => exact goOn_run (s.dispatch_run _ fun f u _ => u.takeBeacon_run f) t h
  | status => exact goOn_run (s.dispatch_run _ fun f u _ => takeStatus_run f u) t h
  | capture => exact goOn_run (s.dispatch_run _ fun f u _ => takeCapture_run f u) t h
  | counters => exact goOn_run (s.dispatch_run _ fun f u _ => takeCounters_run f u) t h
  | slotQuery => exact goOn_run (s.dispatch_run _ fun f u _ => takeSlot_run f u) t h
  | restart running => exact goOn_run (s.dispatch_run _ fun f u _ => takeRestart_run running f u) t h
  | badRequest => exact goOn_run (s.dispatch_run _ fun f u _ => takeBadRequest_run f u) t h
  | frameStart => exact execFrameStart_run h
  | activeStart => exact goOn_run (s.takeRaised_run.then (State.SameWork.run .quiet)) t h
  | silenceEvent station =>
    change (if 63 ≤ station then _ else goOn (s.deliverSilence station)) = _ at h
    split at h
    · cases h
    · exact goOn_run (s.deliverSilence_run station) t h
  | beaconLapse station =>
    change (if 63 ≤ station then _ else goOn (s.deliverLapse station)) = _ at h
    split at h
    · cases h
    · exact goOn_run (s.deliverLapse_run station) t h
  | highlightMove slot =>
    change (if 256 ≤ slot then _ else if s.control.mode = .held then goOn s else goOn (s.moveHighlight slot)) = _ at h
    split at h
    · cases h
    · split at h
      · exact goOn_run .start t h
      · exact goOn_run (s.moveHighlight_run slot) t h
  | crawlStep =>
    change (if s.isRunning then goOn s.takeTick else goOn s) = _ at h
    split at h
    · exact goOn_run s.takeTick_run t h
    · exact goOn_run .start t h
  | beaconDue => exact goOn_run s.sendBeacon_run t h
  | powerOn => exact execPowerOn_run h
  | resetAssert =>
    change (if s.control.mode = .held then goOn s else goOn (s.enterHeld false).heldValues) = _ at h
    split at h
    · exact goOn_run .start t h
    · exact goOn_run ((s.enterHeld_run false).then (State.heldValues_run rfl)) t h
  | heldEnd coldLow running => exact execHeldEnd_run coldLow running h
  | loadingComplete image =>
    obtain ⟨rfl, ho⟩ := hu rfl
    exact execLoadingComplete_run image ho h
  | clearingComplete =>
    change (if s.control.mode = .clearing then goOn s.enterRunning else goOn s) = _ at h
    split at h
    · next hm => exact goOn_run (State.enterRunning_run (.inl hm)) t h
    · exact goOn_run .start t h
  | referenceStop => exact execReferenceStop_run h

/-! ## The laws over every step -/

/-- A law that does not see the queue of commands is kept by a step when every command keeps it. -/
theorem step_of_exec {P Q : State → Prop} (queue : ∀ (s : State) (q : List Instr), P s → P { s with pending := q })
    (idle : ∀ s, P s → Q s) (keep : ∀ (c : Instr) (s t : State), P s → exec c s = .next t → Q t) (hs : P s)
    (h : step s = .next t) : Q t := by
  unfold step at h
  split at h
  · cases h
    exact idle _ hs
  · exact keep _ _ _ (queue s _ hs) h

theorem State.ArbiterLaw.orderly (hs : s.ArbiterLaw) : s.Orderly := by
  by_cases h1 : s.control.mode = .running
  · exact .inl h1
  · by_cases h2 : s.control.mode = .unwinding
    · exact .inr (.inl h2)
    · exact .inr (.inr (.inr (hs.alone h1 h2)))

theorem State.StaleLaw.orderly (hs : s.StaleLaw) : s.Orderly := by
  by_cases h1 : s.control.mode = .running
  · exact .inl h1
  · exact .inr (.inr (.inl (hs.hand h1)))

/-- Settles O13: each request is presented to the port, and each end of a unit passes it on (`State.Act.arbiterLaw`,
`State.Opens.arbiterLaw`). -/
theorem stepKeepsArbiterLaw : Obligations.StepKeepsArbiterLaw := by
  unfold Obligations.StepKeepsArbiterLaw
  exact fun s t hs h => step_of_exec (P := State.ArbiterLaw) (fun _ _ hs => hs.of_sameRequests ⟨rfl, rfl, rfl, rfl, rfl, rfl, rfl⟩)
    (fun _ => id) (fun c _ _ hs h => (exec_run c (fun _ => ⟨rfl, fun _ => hs.orderly⟩) h).arbiterLaw hs) hs h

/-- Outside RUNNING and UNWINDING the end of a text unit leaves the painter in its state. -/
theorem exec_endsUnit_mode {c : Instr} (hc : endsUnit c = true) (hp : s.port.holder = some .text)
    (hr : s.control.mode ≠ .running) (hu : s.control.mode ≠ .unwinding) (h : exec c s = .next t) :
    t.control.mode ≠ .running := by
  have stays : goOn s = .next t → t.control.mode ≠ .running := fun e => by cases e; exact hr
  have other : ∀ {w : Writer} {u : State}, w ≠ .text →
      (if s.port.holder = some w then goOn u else goOn s) = .next t → t.control.mode ≠ .running := by
    intro w u hw e
    rw [hp, if_neg fun e => hw (Option.some.inj e).symm] at e
    exact stays e
  have text : ∀ {u : State}, u.control.mode = s.control.mode →
      (if s.port.holder = some .text then goOn u else goOn s) = .next t → t.control.mode ≠ .running := by
    intro u hm e
    rw [if_pos hp] at e
    cases e
    rw [hm]
    exact hr
  cases c with
  | openUnit | closeUnit | closeAllUnit | orphanClose | unwinding | paintCompletion | restyleCompletion
  | crawlRepaint => exact other (by decide) h
  | bindFill =>
    refine text ?_ h
    unfold State.endFill State.applyFill
    split
    · rw [State.textEnded_mode (by simpa using hu)]; simp
    · rfl
  | baseRun =>
    refine text ?_ h
    unfold State.endBaseRun
    split
    · rw [State.textEnded_mode (by simpa using hu)]; simp
    · rfl
  | topRun =>
    refine text ?_ h
    unfold State.endTopRun
    split
    · rw [State.textEnded_mode (by simpa using hu)]; simp
    · rfl
  | loadingComplete image =>
    change execLoadingComplete image s = _ at h
    unfold execLoadingComplete at h
    split at h
    · cases h
    · split at h
      · cases h
        nofun
      · exact stays h
  | _ => cases hc

/-- Settles O14: what may offer work is followed by the paint unit's taking of work (`State.Course.paintLaw`). -/
theorem stepKeepsPaintLaw : Obligations.StepKeepsPaintLaw := by
  unfold Obligations.StepKeepsPaintLaw
  refine fun s t hc hs h => step_of_exec (P := fun s => s.Sorted ∧ s.PaintLaw) (Q := State.PaintLaw)
    (fun _ _ hs => hs) (fun _ hs => hs.2) (fun c s t hs h => ?_) ⟨⟨hc.slots, hc.peers⟩, hs⟩ h
  by_cases orderly : endsUnit c = true → s.port.holder = some .text → s.Orderly
  · exact (exec_run c (fun hu => ⟨rfl, orderly hu⟩) h).paintLaw hs.1 hs.2
  · push Not at orderly
    obtain ⟨hu, hp, no⟩ := orderly
    exact fun hm => absurd hm (exec_endsUnit_mode hu hp (fun e => no (.inl e)) (fun e => no (.inr (.inl e))) h)

/-- Settles O15: the marks follow the silence and return events, and a paint sets the mark by its source's state
(`State.Act.staleLaw`, `State.Opens.staleLaw`). -/
theorem stepKeepsStaleLaw : Obligations.StepKeepsStaleLaw := by
  unfold Obligations.StepKeepsStaleLaw
  refine fun s t hc hs h => step_of_exec (P := fun s => s.Sorted ∧ s.StaleLaw) (Q := State.StaleLaw)
    (fun _ _ hs => ⟨hs.1, { hs.2 with }⟩) (fun _ hs => hs.2) (fun c s t hs h => ?_) ⟨⟨hc.slots, hc.peers⟩, hs⟩ h
  exact (exec_run c (fun _ => ⟨rfl, fun _ => hs.2.orderly⟩) h).staleLaw hs.1 hs.2

end Sys2Proof.Machine
end

section
/-!
PROOFS. The whole machine: the queue of commands, which commands go on, and the machine right after reset.
-/
namespace Sys2Proof.Machine

variable {s t : State}

/-- Settles O1: that is how `step` is defined on a queue that is not empty. -/
theorem stepRunsFrontCommand : Obligations.StepRunsFrontCommand := by
  unfold Obligations.StepRunsFrontCommand
  intro c rest s h
  unfold step
  rw [h]

theorem State.Change.pending (h : s.Change t) : t.pending = s.pending := by
  cases h with
  | elect =>
    obtain ⟨_, _, e⟩ := s.elect_frame
    rw [e]
  | run =>
    obtain ⟨_, _, e⟩ := State.elect_frame { s with
      control := { s.control with mode := .running, coldCause := none }
      group := { s.group with countdown := s.control.config.interval } }
    rw [e]
  | closeTop =>
    obtain ⟨_, _, _, _, e⟩ := s.closeTop_frame
    rw [e]
  | _ => rfl

/-- Settles O2: no small change touches the queue. -/
theorem execKeepsQueue : Obligations.ExecKeepsQueue := by
  unfold Obligations.ExecKeepsQueue
  exact fun c s t h =>
    (exec_changes c h).keep (P := fun u => u.pending = s.pending) (fun _ _ e change => change.pending.trans e) rfl

/-! ## Which commands go on -/

/-- The command goes on. -/
def GoesOn (o : Host.Outcome State Fault Refusal) : Prop := ∃ t, o = .next t

theorem goOn_goesOn (s : State) : GoesOn (goOn s) := ⟨s, rfl⟩

theorem GoesOn.ite {c : Prop} [Decidable c] {a b : Host.Outcome State Fault Refusal} (ha : GoesOn a) (hb : GoesOn b) :
    GoesOn (if c then a else b) := by
  split
  · exact ha
  · exact hb

theorem execTimed_goesOn (lane : Lane) (s : State) : GoesOn (execGapExpiry lane s) ∧ GoesOn (execHoldGapExpiry lane s) ∧
    GoesOn (execTransmitComplete lane s) ∧ GoesOn (execCollision lane s) ∧ GoesOn (execJamEnd lane s) ∧
    GoesOn (execBackoffExpiry lane s) := by
  refine ⟨?_, ?_, ?_, ?_, ?_, ?_⟩
  · unfold execGapExpiry
    dsimp only
    split <;> exact goOn_goesOn _
  · unfold execHoldGapExpiry
    dsimp only
    split <;> exact goOn_goesOn _
  · unfold execTransmitComplete
    dsimp only
    split <;> exact goOn_goesOn _
  · unfold execCollision
    dsimp only
    split
    · exact (goOn_goesOn _).ite (goOn_goesOn _)
    · exact goOn_goesOn _
  · unfold execJamEnd
    dsimp only
    split <;> exact goOn_goesOn _
  · unfold execBackoffExpiry
    split <;> exact goOn_goesOn _

theorem execHeldEnd_goesOn (coldLow running : Bool) (s : State) : GoesOn (execHeldEnd coldLow running s) := by
  unfold execHeldEnd
  split
  · split
    · exact goOn_goesOn _
    · exact goOn_goesOn _
    · exact (goOn_goesOn _).ite (goOn_goesOn _)
  · exact goOn_goesOn _

theorem exec_goesOn {c : Instr} (h : c.wf = true) (s : State) : GoesOn (exec c s) := by
  have go := goOn_goesOn
  have timed := fun lane => execTimed_goesOn lane s
  cases c with
  | carrierArrival lane | jabberCutoff lane | carrierDrop lane => exact (go _).ite (go _)
  | gapExpiry lane => exact (timed lane).1
  | holdGapExpiry lane => exact (timed lane).2.1
  | transmitComplete lane => exact (timed lane).2.2.1
  | collision lane => exact (timed lane).2.2.2.1
  | jamEnd lane => exact (timed lane).2.2.2.2.1
  | backoffExpiry lane => exact (timed lane).2.2.2.2.2
  | frameEnd lane times rest =>
    change GoesOn (execFrameEnd lane times rest s)
    unfold execFrameEnd
    rw [if_neg (by simp [h])]
    exact (go _).ite (go _)
  | bindFill | baseRun | topRun | openUnit | closeUnit | closeAllUnit | orphanClose | unwinding | paintCompletion
  | restyleCompletion | crawlRepaint => exact (go _).ite (go _)
  | silenceEvent station =>
    change GoesOn (if 63 ≤ station then _ else goOn _)
    rw [if_neg (by simpa [Instr.wf] using h)]
    exact go _
  | beaconLapse station =>
    change GoesOn (if 63 ≤ station then _ else goOn _)
    rw [if_neg (by simpa [Instr.wf] using h)]
    exact go _
  | highlightMove slot =>
    change GoesOn (if 256 ≤ slot then _ else _)
    rw [if_neg (by simpa [Instr.wf] using h)]
    exact (go _).ite (go _)
  | crawlStep | resetAssert | clearingComplete | referenceStop => exact (go _).ite (go _)
  | heldEnd coldLow running => exact execHeldEnd_goesOn coldLow running s
  | loadingComplete image =>
    change GoesOn (execLoadingComplete image s)
    unfold execLoadingComplete
    rw [if_neg (by simpa [Instr.wf] using h)]
    exact (go _).ite (go _)
  | _ => exact go _

theorem exec_illFormed {c : Instr} (h : c.wf = false) (s : State) : ∃ name, exec c s = .refused (.illFormed name) := by
  cases c with
  | frameEnd lane times rest => exact ⟨_, if_pos h⟩
  | silenceEvent station => exact ⟨_, if_pos (by simpa [Instr.wf] using h)⟩
  | beaconLapse station => exact ⟨_, if_pos (by simpa [Instr.wf] using h)⟩
  | highlightMove slot => exact ⟨_, if_pos (by simpa [Instr.wf] using h)⟩
  | loadingComplete image => exact ⟨_, if_pos (by simpa [Instr.wf] using h)⟩
  | _ => cases h

/-- Settles O3: only the commands with operands refuse, and they test their operands first. -/
theorem wellFormedCommandsGoOn : Obligations.WellFormedCommandsGoOn := by
  unfold Obligations.WellFormedCommandsGoOn
  exact fun c s => ⟨fun h => exec_goesOn h s, fun h => exec_illFormed h s⟩

/-! ## The machine right after reset -/

theorem State.reset_canonical : State.reset.Canonical := ⟨rfl, rfl, rfl, rfl, rfl, rfl, rfl, rfl, rfl, rfl⟩

theorem State.reset_bounded : State.reset.Bounded where
  running _ := Nat.zero_le _
  snapshot _ := Nat.zero_le _
  frameQueue := Nat.zero_le _
  transmitQueue := Nat.zero_le _
  queued := Nat.zero_le _
  attempts lane := by cases lane <;> exact Nat.zero_le _
  hold lane := by cases lane <;> exact Nat.zero_le _
  holdGap lane h := by cases lane <;> cases h
  laneAges _ := ⟨le_rfl, le_rfl⟩
  beaconAge _ := le_rfl
  silenceAge _ := ⟨Nat.zero_le _, nofun⟩
  highlight _ := Nat.zero_le _
  countdown := Nat.zero_le _
  read := Nat.zero_le _
  corrections := Nat.zero_le _
  clamped := Nat.zero_le _
  config := Configuration.default_legal
  ran := nofun
  loading := nofun
  unheard _ := rfl

theorem Slot.sound_cold : Slot.cold.Sound where
  free _ := ⟨rfl, rfl, rfl, rfl, rfl, rfl, rfl⟩
  place := nofun
  unshown _ := rfl
  stale := nofun
  rest _ := rfl

theorem State.reset_ownerLaw : State.reset.OwnerLaw where
  owned := nofun
  owner := nofun
  crawl _ := ⟨nofun, nofun⟩

theorem State.reset_overlayLaw : State.reset.OverlayLaw where
  depth := Nat.zero_le _
  used := rfl
  fits := Nat.zero_le _
  level _ _ h := by cases h
  uncovered _ _ _ h := by cases h
  covered _ _ h := by cases h
  inHand := nofun

theorem State.reset_referenceLaw : State.reset.ReferenceLaw where
  free _ := rfl
  leading := nofun
  following := nofun
  neverFree := nofun
  station := le_rfl
  defaulted _ := rfl
  resetting := nofun
  cold _ := rfl
  ran := nofun

theorem State.reset_outstanding (w : Writer) : State.reset.outstanding w = false := by cases w <;> rfl

theorem State.reset_arbiterLaw : State.reset.ArbiterLaw where
  holder := nofun
  idle _ := State.reset_outstanding
  alone _ _ w h := by rw [State.reset_outstanding] at h; cases h
  decided := rfl

theorem State.reset_staleLaw : State.reset.StaleLaw where
  law := nofun
  due := nofun
  unwinding := nofun
  clearing := nofun
  hand _ := rfl

/-- Settles O4: right after reset the machine is HELD, with nothing in its stores and nothing outstanding. -/
theorem resetMeetsLaws : Obligations.ResetMeetsLaws := by
  unfold Obligations.ResetMeetsLaws
  exact ⟨State.reset_canonical, State.reset_bounded, fun p hp => absurd rfl hp, fun n => Slot.sound_cold,
    State.reset_ownerLaw, State.reset_overlayLaw, nofun, State.reset_referenceLaw, State.reset_arbiterLaw, nofun,
    State.reset_staleLaw⟩

end Sys2Proof.Machine
end

section
/-!
PROOFS. Carrier events and transmission at a lane port (R1, R4, R9 to R16).
-/
namespace Sys2Proof.Machine

variable (s : State) (l : Lane)

/-! ## A port is set -/

theorem State.setLanePort_setLanePort (p q : Port) : (s.setLanePort l p).setLanePort l q = s.setLanePort l q := by
  cases l <;> rfl

theorem State.lanePort_setLanePort_same (p : Port) : (s.setLanePort l p).lanePort l = p := by
  cases l <;> rfl

theorem State.firstWaiting_setLanePort (p : Port) : (s.setLanePort l p).firstWaiting l = s.firstWaiting l := by
  cases l <;> rfl

/-- The gap is that of the frame in hand. -/
theorem State.handGap_setLanePort {p q : Port} (h : p.hand = q.hand) :
    (s.setLanePort l p).handGap l = (s.setLanePort l q).handGap l := by
  unfold State.handGap State.handFrame
  rw [State.lanePort_setLanePort_same, State.lanePort_setLanePort_same, h]
  cases l <;> rfl

theorem State.handGap_setLanePort_of_hand {p : Port} (h : p.hand = (s.lanePort l).hand) :
    (s.setLanePort l p).handGap l = s.handGap l := by
  have := s.handGap_setLanePort l h
  rwa [State.setLanePort_same] at this

/-- A port contends for the lane with a frame in hand (R13, R15). -/
theorem State.contend_setLanePort (p : Port) : (s.setLanePort l p).contend l = s.setLanePort l { p with
    tx := if p.carrier then .defer else .gap ((s.setLanePort l p).handGap l) } := by
  unfold State.contend
  rw [State.lanePort_setLanePort_same, State.setLanePort_setLanePort]

/-- An IDLE port takes the oldest frame that waits for its lane (R13). -/
theorem State.portTake_waiting {f : TxFrame} (hm : s.control.mode = .running) (hi : (s.lanePort l).tx = .idle)
    (hf : s.firstWaiting l = some f) : s.portTake l = s.setLanePort l { s.lanePort l with
      hand := some f.seq
      tx := if (s.lanePort l).carrier then .defer
        else .gap ((s.setLanePort l { s.lanePort l with hand := some f.seq }).handGap l) } := by
  unfold State.portTake
  rw [if_pos ⟨s.isRunning_iff.2 hm, hi⟩, hf]
  exact s.contend_setLanePort l _

theorem State.portTake_nothing (hf : s.firstWaiting l = none) : s.portTake l = s := by
  unfold State.portTake
  rw [hf]
  exact ite_self _

theorem State.portTake_busy (h : (s.lanePort l).tx ≠ .idle) : s.portTake l = s := if_neg fun hn => h hn.2

/-- The running bank rises by one increase. -/
theorem State.risesTo_counted {s t : State} (h : ∀ n, s.counter n ≤ Config.counterTop)
    (ht : t.control.running = s.control.running) (c a : Nat) : s.risesTo (t.bump c a) [(c, a)] :=
  State.risesTo_bump (State.risesTo_congr (State.risesTo_refl h) ht fun _ => rfl) c a

/-! ## Carrier (R1, R4, R13) -/

/-- Settles O16: each of the three commands sets the port of its lane. -/
theorem carrierEvents : Obligations.CarrierEvents := by
  unfold Obligations.CarrierEvents
  refine fun lane s => ⟨fun hc => ?_, fun hc hr => ?_, fun hcount hr => ?_⟩
  · have e : exec (.carrierArrival lane) s = goOn (s.setLanePort lane { s.lanePort lane with
        carrier := true
        rx := if (s.lanePort lane).rx = .ready then .receiving else (s.lanePort lane).rx
        tx := match (s.lanePort lane).tx with | .gap _ => .defer | t => t }) := if_neg (by simp [hc])
    refine ⟨_, e, ?_⟩
    rw [State.lanePort_setLanePort_same]
    refine ⟨rfl, rfl, rfl, rfl, rfl, fun h => if_pos h, fun h => if_neg h, fun n h => ?_, fun h => ?_⟩
    · dsimp only
      rw [h]
    · dsimp only
      split
      · next n hn => exact absurd hn (h n)
      · rfl
  · have e : exec (.carrierDrop lane) s = goOn (s.dropCarrier lane) := if_pos ⟨hc, hr⟩
    refine ⟨_, e, ?_⟩
    unfold State.dropCarrier
    rw [State.lanePort_setLanePort_same]
    exact ⟨rfl, rfl, rfl, rfl, rfl, fun h => if_pos h, fun h => if_neg h, fun h => if_pos h, fun h => if_neg h⟩
  · have e : exec (.jabberCutoff lane) s =
        goOn ((s.setLanePort lane { s.lanePort lane with rx := .ignoring }).bump (laneCounter lane 7) 1) := if_pos hr
    refine ⟨_, e, rfl, ?_⟩
    exact State.risesTo_counted hcount (by rw [State.setLanePort_control]) _ _

/-! ## Transmission (R13 to R16) -/

/-- Settles O18: a frame in hand decides the gap, and the port begins it. -/
theorem portBeginsFrame : Obligations.PortBeginsFrame := by
  unfold Obligations.PortBeginsFrame
  refine fun lane s f hf => ⟨?_, fun n hn => ?_, fun hh => ?_⟩
  · unfold State.handGap
    rw [hf]
    dsimp only
    cases f.kind <;> rfl
  · change execGapExpiry lane s = _
    unfold execGapExpiry
    dsimp only
    rw [hn, hf]
    rfl
  · change execHoldGapExpiry lane s = _
    unfold execHoldGapExpiry
    dsimp only
    rw [hh, hf]
    rfl

/-- The port between two frames: IDLE, its counts 0 (R16). -/
def Port.rested (p : Port) : Port :=
  { p with rx := rxOpened p.carrier, tx := .idle, hand := none, attempts := 0, hold := 0 }

/-- A further frame in the same hold, after the burst-hold gap (R16). -/
theorem State.afterSent_held {f : TxFrame} (hf : s.firstWaiting l = some f) (hh : (s.lanePort l).hold < 3) :
    s.afterSent l = s.setLanePort l { s.lanePort l with tx := .holdGap, hand := some f.seq, attempts := 0 } := by
  unfold State.afterSent
  rw [hf]
  exact if_pos hh

/-- The hold ends after three frames, and the port contends anew (R16). -/
theorem State.afterSent_yields {f : TxFrame} (hm : s.control.mode = .running) (hf : s.firstWaiting l = some f)
    (hh : 3 ≤ (s.lanePort l).hold) : s.afterSent l = s.setLanePort l { (s.lanePort l).rested with
      hand := some f.seq
      tx := if (s.lanePort l).carrier then .defer
        else .gap ((s.setLanePort l { (s.lanePort l).rested with hand := some f.seq }).handGap l) } := by
  have idle : s.afterSent l = (s.setLanePort l (s.lanePort l).rested).portTake l := by
    unfold State.afterSent
    rw [hf]
    exact if_neg (by omega)
  rw [idle, State.portTake_waiting _ l (by rw [State.setLanePort_control]; exact hm)
    (by rw [State.lanePort_setLanePort_same]; rfl) (by rw [State.firstWaiting_setLanePort]; exact hf),
    State.setLanePort_setLanePort, State.setLanePort_setLanePort, State.lanePort_setLanePort_same]
  rfl

/-- With no frame waiting the port rests (R16). -/
theorem State.afterSent_rests (hf : s.firstWaiting l = none) :
    s.afterSent l = s.setLanePort l (s.lanePort l).rested := by
  have idle : s.afterSent l = (s.setLanePort l (s.lanePort l).rested).portTake l := by
    unfold State.afterSent
    rw [hf]
    rfl
  rw [idle, State.portTake_nothing]
  rw [State.firstWaiting_setLanePort]
  exact hf

/-- Settles O19: the frame is marked SENT, and the next frame that waits for the lane, if any, goes on in the hold or
contends. -/
theorem transmitCompletes : Obligations.TransmitCompletes := by
  unfold Obligations.TransmitCompletes
  intro lane s bytes q hm hs hq
  have e : exec (.transmitComplete lane) s = goOn ((s.markSend lane q .sent).afterSent lane) := by
    change execTransmitComplete lane s = _
    unfold execTransmitComplete
    dsimp only
    rw [hs, hq]
  refine ⟨_, e, ?_⟩
  have port : (s.markSend lane q .sent).lanePort lane = s.lanePort lane := by cases lane <;> rfl
  have set : ∀ p, (s.markSend lane q .sent).setLanePort lane p = { s.setLanePort lane p with
      tx := (s.markSend lane q .sent).tx } := fun p => by cases lane <;> rfl
  have first : ∀ p, ((s.markSend lane q .sent).setLanePort lane p).firstWaiting lane =
      (s.markSend lane q .sent).firstWaiting lane := fun p => State.firstWaiting_setLanePort _ _ p
  have tx : ∀ p, ((s.markSend lane q .sent).setLanePort lane p).tx = (s.markSend lane q .sent).tx :=
    fun p => State.setLanePort_tx _ _ p
  have frame : ∀ p, (s.markSend lane q .sent).setLanePort lane p = { s.setLanePort lane
      (((s.markSend lane q .sent).setLanePort lane p).lanePort lane) with
        tx := ((s.markSend lane q .sent).setLanePort lane p).tx } := by
    intro p
    rw [State.lanePort_setLanePort_same, tx]
    exact set p
  have mode : (s.markSend lane q .sent).control.mode = .running := hm
  cases hf : (s.markSend lane q .sent).firstWaiting lane with
  | none =>
    rw [State.afterSent_rests _ _ hf]
    refine ⟨frame _, tx _, ?_⟩
    rw [first, hf, State.lanePort_setLanePort_same, port]
    exact ⟨rfl, rfl, nofun, nofun, fun _ => ⟨rfl, rfl, rfl, rfl⟩⟩
  | some f =>
    rcases Nat.lt_or_ge (s.lanePort lane).hold 3 with hh | hh
    · rw [State.afterSent_held _ _ hf (by rw [port]; exact hh)]
      refine ⟨frame _, tx _, ?_⟩
      rw [first, hf, State.lanePort_setLanePort_same, port]
      refine ⟨rfl, rfl, fun g hg _ => ?_, fun g _ h => by omega, nofun⟩
      cases hg
      exact ⟨rfl, rfl, rfl, rfl⟩
    · rw [State.afterSent_yields _ _ mode hf (by rw [port]; exact hh)]
      refine ⟨frame _, tx _, ?_⟩
      rw [first, hf, State.lanePort_setLanePort_same, port]
      refine ⟨rfl, rfl, fun g _ h => by omega, fun g hg _ => ?_, nofun⟩
      cases hg
      exact ⟨if_congr Iff.rfl rfl (congrArg TxState.gap (State.handGap_setLanePort _ _ rfl)), rfl, rfl, rfl⟩

/-! ## Collision and backoff (R14, R15) -/

section Collision

variable {s : State} {lane : Lane} {bytes : List Byte} {q : BitVec 16}

/-- A collision before the eighth attempt (R14). -/
theorem exec_collision_again (hs : (s.lanePort lane).tx = .sending bytes) (hq : (s.lanePort lane).hand = some q)
    (ha : (s.lanePort lane).attempts + 1 < 8) : exec (.collision lane) s =
      .next (State.setLanePort { s.bump (laneCounter lane 11) 1 with freeCount := s.freeCount + 1 } lane
        { s.lanePort lane with
          tx := .jam false (Config.freeJamLevel s.freeCount), attempts := (s.lanePort lane).attempts + 1, hold := 0 }) := by
  change execCollision lane s = _
  unfold execCollision
  dsimp only
  rw [hs, hq]
  exact if_neg (by omega)

/-- The collision of the eighth attempt (R14). -/
theorem exec_collision_gives_up (hs : (s.lanePort lane).tx = .sending bytes) (hq : (s.lanePort lane).hand = some q)
    (ha : 8 ≤ (s.lanePort lane).attempts + 1) : exec (.collision lane) s =
      .next (State.setLanePort ((State.markSend { s.bump (laneCounter lane 11) 1 with freeCount := s.freeCount + 1 }
        lane q .abandoned).bump (laneCounter lane 12) 1) lane { s.lanePort lane with
          tx := .jam true (Config.freeJamLevel s.freeCount), hand := none, attempts := 0, hold := 0 }) := by
  change execCollision lane s = _
  unfold execCollision
  dsimp only
  rw [hs, hq]
  exact if_pos ha

end Collision

/-- Settles O20: a collision sets the port to its jam, the jam's end to BACKOFF or IDLE, and the end of BACKOFF lets the
port contend. -/
theorem collisionBacksOff : Obligations.CollisionBacksOff := by
  unfold Obligations.CollisionBacksOff
  refine fun lane s => ⟨fun bytes q hc hs hq => ?_, fun high hj => ?_, fun b hb => ?_, fun high hj hm => ?_⟩
  · have counted : s.risesTo { s.bump (laneCounter lane 11) 1 with freeCount := s.freeCount + 1 }
        [(laneCounter lane 11, 1)] := State.risesTo_congr (State.risesTo_counted hc rfl _ _) rfl fun _ => rfl
    rcases Nat.lt_or_ge ((s.lanePort lane).attempts + 1) 8 with ha | ha
    · refine ⟨_, Config.freeJamLevel s.freeCount, exec_collision_again hs hq ha, fun _ => ⟨?_, ?_⟩, fun h => by omega⟩
      · cases lane <;> rfl
      · exact State.risesTo_congr counted (by rw [State.setLanePort_control]) fun _ => rfl
    · refine ⟨_, Config.freeJamLevel s.freeCount, exec_collision_gives_up hs hq ha, fun h => by omega, fun _ => ⟨?_, ?_⟩⟩
      · cases lane <;> rfl
      · exact State.risesTo_congr (State.risesTo_bump counted (laneCounter lane 12) 1)
          (by rw [State.setLanePort_control]; rfl) fun _ => rfl
  · have small : backoffSlots s.control.config.station (s.lanePort lane).attempts ≤ 15 := by
      have := Nat.mod_lt (s.control.config.station + (s.lanePort lane).attempts)
        (Nat.two_pow_pos (min (s.lanePort lane).attempts 4))
      have := Nat.pow_le_pow_right (n := 2) (by omega) (min_le_right (s.lanePort lane).attempts 4)
      unfold backoffSlots
      omega
    refine ⟨_, small, rfl, ?_⟩
    change execJamEnd lane s = _
    unfold execJamEnd
    dsimp only
    rw [hj]
    dsimp only
    generalize backoffSlots s.control.config.station (s.lanePort lane).attempts = b
    by_cases hb : b = 0
    · rw [if_pos hb, if_pos hb, State.contend_setLanePort, State.handGap_setLanePort_of_hand]
      · rfl
      · rfl
    · rw [if_neg hb, if_neg hb]
      rfl
  · change execBackoffExpiry lane s = _
    unfold execBackoffExpiry
    rw [hb]
    rfl
  · have e : exec (.jamEnd lane) s = goOn ((s.setLanePort lane { s.lanePort lane with
        rx := rxOpened (s.lanePort lane).carrier, tx := .idle }).portTake lane) := by
      change execJamEnd lane s = _
      unfold execJamEnd
      dsimp only
      rw [hj]
    refine ⟨_, e, ?_⟩
    have first : ∀ p, (s.setLanePort lane p).firstWaiting lane = s.firstWaiting lane :=
      fun p => s.firstWaiting_setLanePort lane p
    cases hf : s.firstWaiting lane with
    | none =>
      rw [State.portTake_nothing _ _ (by rw [first]; exact hf), State.lanePort_setLanePort_same]
      exact ⟨rfl, rfl, fun _ => rfl, nofun⟩
    | some f =>
      rw [State.portTake_waiting _ _ (by rw [State.setLanePort_control]; exact hm)
        (by rw [State.lanePort_setLanePort_same]) (by rw [first]; exact hf), State.setLanePort_setLanePort,
        State.setLanePort_setLanePort, State.lanePort_setLanePort_same, State.lanePort_setLanePort_same]
      refine ⟨rfl, rfl, nofun, fun g hg => ?_⟩
      cases hg
      exact ⟨rfl, if_congr Iff.rfl rfl (congrArg TxState.gap (State.handGap_setLanePort _ _ rfl))⟩

end Sys2Proof.Machine
end

section
/-!
PROOFS. The end of a reception (R1 to R7).
-/
namespace Sys2Proof.Machine

variable {s : State} {lane : Lane} {bytes : List Byte}

/-! ## The class of a reception (R3) -/

theorem classify_short (h : bytes.length < 8) :
    classify bytes false = if crcGood bytes then .undersize else .fragment := by
  simp [classify, h]

theorem classify_long (h : 128 < bytes.length) :
    classify bytes false = if crcGood bytes then .oversize else .jabber := by
  simp [classify, h, show ¬ bytes.length < 8 by omega]

theorem classify_sized (h1 : 8 ≤ bytes.length) (h2 : bytes.length ≤ 128) : classify bytes false =
    if crcGood bytes = false then .crcError
    else if RxFrame.sender ⟨bytes, lane⟩ = 63 ∨ bytes.length ≠ 8 + RxFrame.payloadLength ⟨bytes, lane⟩ then .malformed
    else .good := by
  simp [classify, show ¬ bytes.length < 8 by omega, show ¬ 128 < bytes.length by omega, RxFrame.sender,
    RxFrame.payloadLength]
  rfl

/-- Only a reception of 8 to 128 bytes without a violation has a size bucket (R5). -/
theorem State.countReception_unsized {cls : RxClass} {len : Nat} (h : cls = .symbolError ∨ len < 8 ∨ 128 < len) :
    s.countReception lane cls len = s.bump (laneCounter lane cls.counter) 1 := by
  simp [State.countReception, bucketOf, h]

theorem State.countReception_sized {cls : RxClass} {len : Nat} (hc : cls ≠ .symbolError) (h1 : 8 ≤ len)
    (h2 : len ≤ 128) : s.countReception lane cls len =
      (s.bump (laneCounter lane cls.counter) 1).bump (laneCounter lane (sizeBucket len)) 1 := by
  simp [State.countReception, bucketOf, hc, show ¬ len < 8 by omega, show ¬ 128 < len by omega, sizeBucket]

/-- What a good frame changes: its octets, the wrong-lane test, and its place or its overrun (R3, R5, R7). -/
theorem State.takeGood_eq (s : State) (lane : Lane) (bytes : List Byte) : s.takeGood lane bytes =
    if s.frameQueue.length < 8 then { (s.bump (laneCounter lane 1) bytes.length).bumpIf
        (!decide (RxFrame.tag ⟨bytes, lane⟩ = lane)) (laneCounter lane 9) with
      frameQueue := s.frameQueue ++ [⟨bytes, lane⟩] }
    else ((s.bump (laneCounter lane 1) bytes.length).bumpIf (!decide (RxFrame.tag ⟨bytes, lane⟩ = lane))
      (laneCounter lane 9)).bump (laneCounter lane 10) 1 := by
  unfold State.takeGood
  dsimp only
  by_cases ht : RxFrame.tag ⟨bytes, lane⟩ = lane
  · rw [if_pos ht, decide_eq_true ht]
    rfl
  · rw [if_neg ht, decide_eq_false ht]
    rfl

theorem State.bumpIf_frameQueue (s : State) (c : Bool) (n : Nat) : (s.bumpIf c n).frameQueue = s.frameQueue := by
  cases c <;> rfl

theorem risesTo_takeGood {s₀ : State} {l : List (Nat × Nat)} (h : s₀.risesTo s l) :
    s₀.risesTo (s.takeGood lane bytes) (l ++ [(laneCounter lane 1, bytes.length)] ++
      (if RxFrame.tag ⟨bytes, lane⟩ = lane then [] else [(laneCounter lane 9, 1)]) ++
      (if s.frameQueue.length < 8 then [] else [(laneCounter lane 10, 1)])) := by
  have tagged := State.risesTo_bumpIf (State.risesTo_bump h (laneCounter lane 1) bytes.length)
    (!decide (RxFrame.tag ⟨bytes, lane⟩ = lane)) (laneCounter lane 9)
  have same : (if (!decide (RxFrame.tag ⟨bytes, lane⟩ = lane)) = true then [(laneCounter lane 9, 1)] else []) =
      if RxFrame.tag ⟨bytes, lane⟩ = lane then [] else [(laneCounter lane 9, 1)] := by
    by_cases ht : RxFrame.tag ⟨bytes, lane⟩ = lane <;> simp [ht]
  rw [same] at tagged
  rw [State.takeGood_eq]
  split
  · exact State.risesTo_congr tagged rfl fun n => by simp
  · exact State.risesTo_bump tagged _ _

/-! ## FRAME_END -/

/-- The bit-times of the operands are ones through which carrier is held (log 6). -/
theorem frameEnd_wf {times rest : List BitTime} {levels : List Bool} (h1 : times.length % 8 = 0) (h2 : rest.length < 8)
    (h3 : times.length + rest.length ≤ 2048) (hl : levels = (times ++ rest).flatMap (fun b => [b.first, b.second]))
    (h4 : ∀ i level, i + 4 ≤ levels.length → ∃ j, i ≤ j ∧ j < i + 4 ∧ levels[j]? ≠ some level)
    (h5 : ∀ level, 3 ≤ levels.length → ∃ j, levels.length ≤ j + 3 ∧ j < levels.length ∧ levels[j]? ≠ some level) :
    (Instr.frameEnd lane times rest).wf = true := by
  have held : carrierHeld (times ++ rest) = true := (carrierHeld_iff _ levels hl).2 ⟨h4, h5⟩
  simp [Instr.wf, h1, h2, held, Config.receptionTimes, h3]

/-- What a reception of class `cls` leaves where its carrier has dropped. -/
def frameEndResult (u : State) (lane : Lane) (cls : RxClass) (bytes : List Byte) : State :=
  if cls = .good then (u.countReception lane cls bytes.length).takeGood lane bytes
  else u.countReception lane cls bytes.length

theorem frameEnd_result (u : State) (lane : Lane) (cls : RxClass) (bytes : List Byte) :
    ∃ q m, frameEndResult u lane cls bytes =
      { u with frameQueue := q, control := { u.control with running := m } } := by
  obtain ⟨m, e⟩ := u.countReception_frame lane cls bytes.length
  unfold frameEndResult
  split
  · obtain ⟨q, m', e'⟩ := (u.countReception lane cls bytes.length).takeGood_frame lane bytes
    exact ⟨q, m', by rw [e', e]⟩
  · exact ⟨u.frameQueue, m, e⟩

/-- Carrier drops, and the reception is classified and counted; a good frame is taken. -/
theorem exec_frameEnd {times rest : List BitTime} (hw : (Instr.frameEnd lane times rest).wf = true)
    (hr : (s.lanePort lane).rx = .receiving) : exec (.frameEnd lane times rest) s = .next
      (frameEndResult (s.dropCarrier lane) lane (classify (lineBytes times) (lineViolation (times ++ rest)))
        (lineBytes times)) := by
  change execFrameEnd lane times rest s = _
  unfold execFrameEnd
  rw [if_neg (by simp [hw]), if_pos hr]
  rfl

/-- What a frame end may change beside the port of its lane: the counters and the frame queue. -/
theorem frameEnd_frame {t : State} {p : Port} {q : List RxFrame} {m : Store Nat}
    (h : t = { s.setLanePort lane p with frameQueue := q, control := { s.control with running := m } }) :
    t = { (s.setLanePort lane (t.lanePort lane)).withRunning t with frameQueue := t.frameQueue } ∧
      t.lanePort lane = p := by
  subst h
  cases lane <;> exact ⟨rfl, rfl⟩

/-- The port of a lane whose reception has ended (R1, R13). -/
theorem State.dropCarrier_eq (hr : (s.lanePort lane).rx = .receiving) :
    s.dropCarrier lane = s.setLanePort lane { s.lanePort lane with
      carrier := false, rx := .ready
      tx := if (s.lanePort lane).tx = .defer then .gap (s.handGap lane) else (s.lanePort lane).tx } := by
  unfold State.dropCarrier
  dsimp only
  rw [hr]
  rfl

/-- Settles O17: the classes are the tests of R3 in their order, and each is counted as R5 and R6 say. -/
theorem frameEndClassifies : Obligations.FrameEndClassifies := by
  unfold Obligations.FrameEndClassifies
  intro lane times rest levels bytes violation s hb hv h1 h2 h3 hl h4 h5 hc hr
  have e := exec_frameEnd (s := s) (frameEnd_wf h1 h2 h3 hl h4 h5) hr
  rw [← hb, ← hv, State.dropCarrier_eq hr] at e
  generalize hp : ({ s.lanePort lane with
      carrier := false, rx := .ready
      tx := if (s.lanePort lane).tx = .defer then .gap (s.handGap lane) else (s.lanePort lane).tx } : Port) = p at e
  have framed : ∀ (t : State) (q : List RxFrame) (m : Store Nat),
      t = { s.setLanePort lane p with frameQueue := q, control := { (s.setLanePort lane p).control with running := m } } →
      t = { (s.setLanePort lane (t.lanePort lane)).withRunning t with frameQueue := t.frameQueue } ∧
        t.lanePort lane = p := fun t q m h =>
    frameEnd_frame (q := q) (m := m) (h.trans (by rw [State.setLanePort_control]))
  have queue : (s.setLanePort lane p).frameQueue = s.frameQueue := State.setLanePort_frameQueue ..
  have none : s.risesTo (s.setLanePort lane p) [] :=
    State.risesTo_congr (State.risesTo_refl hc) (by rw [State.setLanePort_control]) fun _ => rfl
  generalize s.setLanePort lane p = u at e framed queue none
  have frame := frameEnd_result u lane (classify bytes violation) bytes
  obtain ⟨q, m, hf⟩ := frame
  obtain ⟨hframe, hport⟩ := framed _ q m hf
  have counted : ∀ cls, (cls = .symbolError ∨ bytes.length < 8 ∨ 128 < bytes.length) → cls ≠ .good →
      classify bytes violation = cls → ∀ t, t = frameEndResult u lane (classify bytes violation) bytes →
      s.risesTo t [(laneCounter lane cls.counter, 1)] ∧ t.frameQueue = s.frameQueue := by
    intro cls hcls hg h t ht
    rw [h, frameEndResult, if_neg hg, State.countReception_unsized hcls] at ht
    subst ht
    exact ⟨State.risesTo_bump none _ _, queue⟩
  have sized : ∀ cls, cls ≠ .symbolError → 8 ≤ bytes.length → bytes.length ≤ 128 → cls ≠ .good →
      classify bytes violation = cls → ∀ t, t = frameEndResult u lane (classify bytes violation) bytes →
      s.risesTo t [(laneCounter lane cls.counter, 1), (laneCounter lane (sizeBucket bytes.length), 1)] ∧
        t.frameQueue = s.frameQueue := by
    intro cls hcls h1 h2 hg h t ht
    rw [h, frameEndResult, if_neg hg, State.countReception_sized hcls h1 h2] at ht
    subst ht
    exact ⟨State.risesTo_bump (State.risesTo_bump none _ _) _ _, queue⟩
  refine ⟨_, e, hframe, hport, fun hv => ?_, fun hv hlen hcrc => ?_, fun hv hlen hcrc => ?_,
    fun hv hlen hcrc => ?_, fun hv hlen hcrc => ?_, fun hv hl1 hl2 hcrc => ?_, fun hv hl1 hl2 hcrc hbad => ?_,
    fun hv hl1 hl2 hcrc hs hlen => ?_⟩
  · exact counted .symbolError (.inl rfl) nofun (by rw [hv]; rfl) _ rfl
  · exact counted .undersize (.inr (.inl hlen)) nofun (by rw [hv, classify_short hlen, if_pos hcrc]) _ rfl
  · exact counted .fragment (.inr (.inl hlen)) nofun (by rw [hv, classify_short hlen, if_neg (by simp [hcrc])]) _ rfl
  · exact counted .oversize (.inr (.inr hlen)) nofun (by rw [hv, classify_long hlen, if_pos hcrc]) _ rfl
  · exact counted .jabber (.inr (.inr hlen)) nofun (by rw [hv, classify_long hlen, if_neg (by simp [hcrc])]) _ rfl
  · exact sized .crcError nofun hl1 hl2 nofun (by rw [hv, classify_sized (lane := lane) hl1 hl2, if_pos hcrc]) _ rfl
  · exact sized .malformed nofun hl1 hl2 nofun
      (by rw [hv, classify_sized (lane := lane) hl1 hl2, if_neg (by simp [hcrc]), if_pos hbad]) _ rfl
  · have good : classify bytes violation = .good := by
      rw [hv, classify_sized (lane := lane) hl1 hl2, if_neg (by simp [hcrc]), if_neg (by simp [hs, hlen])]
    rw [good, frameEndResult, if_pos rfl, State.countReception_sized (cls := .good) (by decide) hl1 hl2]
    have rises := risesTo_takeGood (lane := lane) (bytes := bytes)
      (State.risesTo_bump (State.risesTo_bump none (laneCounter lane RxClass.good.counter) 1)
        (laneCounter lane (sizeBucket bytes.length)) 1)
    have room : ((u.bump (laneCounter lane RxClass.good.counter) 1).bump (laneCounter lane (sizeBucket bytes.length))
        1).frameQueue = s.frameQueue := queue
    rw [room] at rises
    refine ⟨State.risesTo_congr rises rfl fun n => ?_, ?_⟩
    · simp only [amountFor_append, amountFor_cons, amountFor_nil, RxClass.counter]
      omega
    · rw [State.takeGood_eq, room]
      split
      · rfl
      · rw [State.bump_frameQueue, State.bumpIf_frameQueue]
        exact room

end Sys2Proof.Machine
end

section
/-!
PROOFS. Answers in the transmit queue (R9 to R13, R144), what goes out on a lane and how it reads back (R2, R10, R162).
-/
namespace Sys2Proof.Machine

/-! ## Both ports after a frame has joined the queue (R13) -/

theorem State.portTake_sets (s : State) (l : Lane) : ∃ p, s.portTake l = s.setLanePort l p := by
  unfold State.portTake
  split
  · split
    · exact ⟨_, State.contend_setLanePort ..⟩
    · exact ⟨s.lanePort l, (s.setLanePort_same l).symm⟩
  · exact ⟨s.lanePort l, (s.setLanePort_same l).symm⟩

theorem State.portTake_b_of_portA (s : State) (p : Port) :
    (State.portTake { s with portA := p } .b).portB = (s.portTake .b).portB := by
  have running : State.isRunning { s with portA := p } = s.isRunning := rfl
  have first : State.firstWaiting { s with portA := p } .b = s.firstWaiting .b := rfl
  have port : State.lanePort { s with portA := p } .b = s.lanePort .b := rfl
  unfold State.portTake
  rw [running, first, port]
  split
  · split <;> rfl
  · rfl

/-- Each port takes what it would take alone. -/
theorem State.lanePort_portTakes (s : State) (l : Lane) :
    ((s.portTake .a).portTake .b).lanePort l = (s.portTake l).lanePort l := by
  obtain ⟨p, e⟩ := s.portTake_sets .a
  cases l with
  | a =>
    obtain ⟨q, e'⟩ := (s.portTake .a).portTake_sets .b
    rw [e']
    rfl
  | b =>
    rw [e]
    exact s.portTake_b_of_portA p

theorem State.handGap_congr {s t : State} {l : Lane} (hand : (s.lanePort l).hand = (t.lanePort l).hand)
    (frames : s.tx.frames = t.tx.frames) : s.handGap l = t.handGap l := by
  unfold State.handGap State.handFrame
  rw [hand, frames]

/-- A frame at the tail of a queue with no frame for a lane is the first that waits for it. -/
theorem State.firstWaiting_tail {s : State} {l : Lane} (h : s.firstWaiting l = none) {f : TxFrame}
    (hf : f.sendState l = .waiting) {q : TxQueue} (hq : q.frames = s.tx.frames ++ [f]) :
    State.firstWaiting { s with tx := q } l = some f := by
  unfold State.firstWaiting at h ⊢
  rw [show ({ s with tx := q } : State).tx.frames = s.tx.frames ++ [f] from hq, List.find?_append, h]
  simp [hf]

/-- The REPLY that takes a new place, its header completed (R10). -/
def State.replyFrame (s : State) (dest : Nat) (payload : List Byte) : TxFrame :=
  { kind := .reply, group := s.control.config.group, dest := dest, seq := s.tx.seq
    restart := decide (s.tx.queued < 32), payload := payload, sendA := .waiting, sendB := .waiting }

/-- A frame at the tail of the transmit queue (R9, R10). -/
def State.joined (s : State) (f : TxFrame) : State :=
  { s with tx := { frames := s.tx.frames ++ [f], seq := s.tx.seq + 1, queued := min 32 (s.tx.queued + 1) } }

theorem State.queueFrame_reply (s : State) (dest : Nat) (payload : List Byte) : s.queueFrame .reply dest payload =
    ((s.joined (s.replyFrame dest payload)).portTake .a).portTake .b := rfl

theorem State.lanePort_joined (s : State) (f : TxFrame) (l : Lane) : (s.joined f).lanePort l = s.lanePort l := by
  cases l <;> rfl

/-- Settles O22: a REPLY is counted as dropped, or joins the tail and an IDLE port takes it. -/
theorem replyQueuedOrDropped : Obligations.ReplyQueuedOrDropped := by
  unfold Obligations.ReplyQueuedOrDropped
  intro s dest kind seq code data hc
  refine ⟨_, rfl, fun hd => ?_, fun hi hl => ?_⟩
  · have dropped : s.queueReply dest kind seq code data = s.bump 47 1 := if_pos hd
    rw [dropped]
    exact ⟨rfl, State.risesTo_counted hc rfl _ _⟩
  · have queued : s.queueReply dest kind seq code data = s.queueFrame .reply dest
        ([byteOf kind] ++ bytes16 seq ++ [byteOf code.code] ++ data) := if_neg (by simp [hi]; exact hl)
    rw [queued]
    generalize [byteOf kind] ++ bytes16 seq ++ [byteOf code.code] ++ data = payload
    obtain ⟨a, b, e⟩ := s.queueFrame_frame .reply dest payload
    refine ⟨by rw [e], by rw [e], by rw [e], by rw [e], fun lane => ?_⟩
    have frames : (s.queueFrame .reply dest payload).tx.frames = (s.joined (s.replyFrame dest payload)).tx.frames := by
      rw [e]
      rfl
    rw [State.queueFrame_reply] at frames ⊢
    have port := s.lanePort_joined (s.replyFrame dest payload) lane
    have ports := (s.joined (s.replyFrame dest payload)).lanePort_portTakes lane
    refine ⟨fun hbusy => ?_, fun hidle hm hnone => ?_⟩
    · rw [ports, State.portTake_busy _ _ (by rw [port]; exact hbusy), port]
    · have first : (s.joined (s.replyFrame dest payload)).firstWaiting lane = some (s.replyFrame dest payload) :=
        State.firstWaiting_tail hnone (by cases lane <;> rfl) rfl
      rw [State.portTake_waiting (s.joined (s.replyFrame dest payload)) lane hm (by rw [port]; exact hidle) first, State.lanePort_setLanePort_same, port]
        at ports
      rw [ports]
      refine ⟨rfl, if_congr Iff.rfl rfl (congrArg TxState.gap (State.handGap_congr ?_ ?_))⟩
      · rw [State.lanePort_setLanePort_same, ports]
      · rw [State.setLanePort_tx, frames]

/-! ## A frame as it is sent (R2, R10, 11.1) -/

/-- The header and the payload, over which the CRC is taken. -/
def TxFrame.body (f : TxFrame) (station : Nat) (lane : Lane) : List Byte :=
  byteOf (station * 4 + laneBit lane * 2 + f.restart.toNat) :: f.seq.extractLsb' 8 8 :: f.seq.extractLsb' 0 8 ::
    byteOf (f.kind.code * 16 + f.group) :: byteOf (f.dest * 4 + f.kind.frameClass) :: byteOf f.payload.length ::
      f.payload

theorem TxFrame.encode_eq (f : TxFrame) (station : Nat) (lane : Lane) :
    f.encode station lane = f.body station lane ++ bytes16 (crc16 (f.body station lane)) := rfl

theorem TxFrame.encode_length (f : TxFrame) (station : Nat) (lane : Lane) :
    (f.encode station lane).length = f.payload.length + 8 := by
  simp [TxFrame.encode_eq, TxFrame.body, bytes16]

theorem be16_bytes16 (w : BitVec 16) : be16 (w.extractLsb' 8 8) (w.extractLsb' 0 8) = w :=
  ((be16_eq_iff _ _ w).2 ⟨rfl, rfl⟩)

/-- A body followed by its CRC is good (R2). -/
theorem crcGood_append {body : List Byte} (h : 1 ≤ body.length) : crcGood (body ++ bytes16 (crc16 body)) = true := by
  have hi : byteAt (body ++ bytes16 (crc16 body)) body.length = (crc16 body).extractLsb' 8 8 := by
    simp [byteAt, bytes16]
  have lo : byteAt (body ++ bytes16 (crc16 body)) (body.length + 1) = (crc16 body).extractLsb' 0 8 := by
    simp [byteAt, bytes16]
  have len : (body ++ bytes16 (crc16 body)).length = body.length + 2 := by simp [bytes16]
  unfold crcGood
  rw [len, Nat.add_sub_cancel, List.take_left, show body.length + 2 - 1 = body.length + 1 by omega, hi, lo, be16_bytes16]
  simp
  omega

theorem byteOf_toNat {n : Nat} (h : n < 256) : (byteOf n).toNat = n := by
  simp [byteOf]
  omega

/-- The lane tag and the restart flag stand in the two low bits of the first byte (11.1). -/
theorem byteOf_header (station : Nat) (lane : Lane) (restart : Bool) :
    (byteOf (station * 4 + laneBit lane * 2 + restart.toNat)).getLsbD 1 = decide (lane = .b) ∧
      (byteOf (station * 4 + laneBit lane * 2 + restart.toNat)).getLsbD 0 = restart := by
  unfold byteOf
  rw [BitVec.getLsbD_ofNat, BitVec.getLsbD_ofNat, Nat.testBit_eq_decide_div_mod_eq, Nat.testBit_eq_decide_div_mod_eq]
  cases lane <;> cases restart <;> simp [laneBit] <;> omega

/-- What a port sends is a good frame that reads back as the transmit queue completed it. -/
theorem TxFrame.encode_readsBack (f : TxFrame) {station : Nat} (lane arrival : Lane) (hs : station < 63)
    (hg : f.group < 16) (hd : f.dest < 64) (hp : f.payload.length ≤ 120) :
    classify (f.encode station lane) false = .good ∧
      RxFrame.sender ⟨f.encode station lane, arrival⟩ = station ∧
      RxFrame.tag ⟨f.encode station lane, arrival⟩ = lane ∧
      RxFrame.restart ⟨f.encode station lane, arrival⟩ = f.restart ∧
      RxFrame.seq ⟨f.encode station lane, arrival⟩ = f.seq ∧
      RxFrame.kind ⟨f.encode station lane, arrival⟩ = f.kind.code ∧
      RxFrame.group ⟨f.encode station lane, arrival⟩ = f.group ∧
      RxFrame.dest ⟨f.encode station lane, arrival⟩ = f.dest ∧
      (byteAt (f.encode station lane) 4).toNat % 4 = f.kind.frameClass ∧
      RxFrame.payload ⟨f.encode station lane, arrival⟩ = f.payload := by
  have len := f.encode_length station lane
  have bit : laneBit lane ≤ 1 := by cases lane <;> simp [laneBit]
  have flag : f.restart.toNat ≤ 1 := Bool.toNat_le _
  have code : f.kind.code ≤ 9 := by cases f.kind <;> simp [TxKind.code, kindBeacon, kindReply]
  have cls : f.kind.frameClass ≤ 2 := by cases f.kind <;> simp [TxKind.frameClass]
  obtain ⟨tag, restart⟩ := byteOf_header station lane f.restart
  have first : byteAt (f.encode station lane) 0 = byteOf (station * 4 + laneBit lane * 2 + f.restart.toNat) := rfl
  have third : (byteAt (f.encode station lane) 3).toNat = f.kind.code * 16 + f.group := byteOf_toNat (by omega)
  have fourth : (byteAt (f.encode station lane) 4).toNat = f.dest * 4 + f.kind.frameClass := byteOf_toNat (by omega)
  have fifth : (byteAt (f.encode station lane) 5).toNat = f.payload.length := byteOf_toNat (by omega)
  have sender : RxFrame.sender ⟨f.encode station lane, arrival⟩ = station := by
    unfold RxFrame.sender
    rw [first, byteOf_toNat (by omega)]
    omega
  refine ⟨?_, sender, ?_, ?_, be16_bytes16 f.seq, ?_, ?_, ?_, ?_, ?_⟩
  · rw [classify_sized (lane := arrival) (by omega) (by omega), if_neg, if_neg]
    · rw [sender, not_or, not_not, len, RxFrame.payloadLength, fifth]
      omega
    · rw [TxFrame.encode_eq, crcGood_append (by simp [TxFrame.body])]
      nofun
  · unfold RxFrame.tag
    rw [first, tag]
    cases lane <;> rfl
  · unfold RxFrame.restart
    rw [first, restart]
  · unfold RxFrame.kind
    rw [third]
    omega
  · unfold RxFrame.group
    rw [third]
    omega
  · unfold RxFrame.dest
    rw [fourth]
    omega
  · rw [fourth]
    omega
  · unfold RxFrame.payload
    rw [len, Nat.add_sub_cancel]
    exact List.take_left

/-! ## The line (R162) -/

theorem byteOf_bits : ∀ b : Byte, byteOf (128 * (b.getLsbD 7).toNat + 64 * (b.getLsbD 6).toNat +
    32 * (b.getLsbD 5).toNat + 16 * (b.getLsbD 4).toNat + 8 * (b.getLsbD 3).toNat + 4 * (b.getLsbD 2).toNat +
    2 * (b.getLsbD 1).toNat + (b.getLsbD 0).toNat) = b := by decide

theorem lineBytes_lineCode (bytes : List Byte) : lineBytes (lineCode bytes) = bytes := by
  induction bytes with
  | nil => rfl
  | cons b bytes ih =>
    change byteOf _ :: lineBytes (lineCode bytes) = _
    rw [ih]
    exact congrArg (· :: bytes) (byteOf_bits b)

theorem byteTimes_violation (b : Byte) : (byteTimes b).any bitViolates = false := by
  simp [byteTimes, bitTime, bitViolates]

theorem lineViolation_lineCode (bytes : List Byte) : lineViolation (lineCode bytes) = false := by
  induction bytes with
  | nil => rfl
  | cons b bytes ih =>
    change (byteTimes b ++ lineCode bytes).any bitViolates = false
    rw [List.any_append, byteTimes_violation]
    exact ih

theorem getElem?_byteTimes (b : Byte) {j : Nat} (h : j < 8) :
    (byteTimes b)[j]? = some { first := !b.getLsbD (7 - j), second := b.getLsbD (7 - j) } := by
  interval_cases j <;> rfl

theorem getElem?_lineCode {bytes : List Byte} {i : Nat} {b : Byte} (h : bytes[i]? = some b) {j : Nat} (hj : j < 8) :
    (lineCode bytes)[8 * i + j]? = some { first := !b.getLsbD (7 - j), second := b.getLsbD (7 - j) } := by
  have len : ∀ c : Byte, (byteTimes c).length = 8 := fun c => rfl
  induction bytes generalizing i with
  | nil => cases h
  | cons c bytes ih =>
    change (byteTimes c ++ lineCode bytes)[8 * i + j]? = _
    cases i with
    | zero =>
      cases h
      rw [List.getElem?_append_left (by rw [len]; omega), Nat.mul_zero, Nat.zero_add]
      exact getElem?_byteTimes _ hj
    | succ i =>
      rw [List.getElem?_append_right (by rw [len]; omega), len, show 8 * (i + 1) + j - 8 = 8 * i + j by omega]
      exact ih h

/-- Settles O21: the encoding reads back field by field, the line code bit by bit. -/
theorem sentFrameReadsBack : Obligations.SentFrameReadsBack := by
  unfold Obligations.SentFrameReadsBack
  refine ⟨fun f station lane arrival hs hg hd hp => f.encode_readsBack lane arrival hs hg hd hp,
    fun bytes => ⟨lineBytes_lineCode bytes, lineViolation_lineCode bytes, fun i b h j hj => getElem?_lineCode h hj⟩,
    fun times => by simp [lineViolation, bitViolates], fun s lane => ⟨fun bytes hm ht => ?_, fun giveUp high hm ht => ?_,
    fun h => ?_⟩⟩
  · simp [State.driven, s.isRunning_iff.2 hm, ht]
  · refine ⟨jamTimes high, by simp [State.driven, s.isRunning_iff.2 hm, ht], by simp [jamTimes], fun i hi => ?_⟩
    refine ⟨if i % 2 = 0 then high else !high, by simp [jamTimes, hi], ?_⟩
    split <;> simp [*]
  · unfold State.driven
    split
    · next hr =>
      obtain ⟨h1, h2⟩ := h.resolve_left fun h => h (s.isRunning_iff.1 hr)
      split
      · next ht => exact absurd ht (h1 _)
      · next ht => exact absurd ht (h2 _ _)
      · rfl
      · rfl
      · rfl
      · rfl
      · rfl
    · rfl

end Sys2Proof.Machine
end

section
/-!
PROOFS. The peer table's decision and the dispatcher's steps 1 to 3 (R20 to R31).
-/
namespace Sys2Proof.Machine

variable {s t u : State} {f : RxFrame} {rest : List RxFrame}

/-! ## Step 1 -/

/-- Settles O23: whichever row takes the frame, step 1 ends with it. -/
theorem clashDiscarded : Obligations.ClashDiscarded := by
  unfold Obligations.ClashDiscarded
  intro c takes s f rest hc hr hready ht hs
  obtain ⟨handler, e⟩ := exec_row hready c takes hr ht
  have clash : ({ s with frameQueue := rest } : State).intake f =
      ({ State.bump { s with frameQueue := rest } 35 1 with
        control := { (State.bump { s with frameQueue := rest } 35 1).control with clash := true } }, false) := if_pos hs
  rw [clash] at e
  refine ⟨_, e, rfl, ?_, ?_⟩
  · exact State.risesTo_congr (State.risesTo_counted (s := s) (t := { s with frameQueue := rest }) hc rfl 35 1) rfl
      fun _ => rfl
  · simp [State.faultAsserted]

/-! ## The decision (R23 to R27) -/

/-- Settles O24. -/
theorem entryReinitialised : Obligations.EntryReinitialised := by
  unfold Obligations.EntryReinitialised
  refine fun e seq flag => ⟨fun hl => ?_, fun hl hf hr => ?_⟩
  · unfold PeerEntry.judge
    rw [if_pos hl]
    simp [PeerEntry.restartAt, PeerEntry.onAccept]
  · unfold PeerEntry.judge
    rw [if_neg (by simp [hl]), if_pos ⟨hf, hr⟩]
    simp [PeerEntry.restartAt, PeerEntry.onAccept, hf, hl]

/-- The window moved on by `d` and marked at the new high (R25). -/
theorem getLsbD_ahead (w : BitVec 32) (d i : Nat) (hi : i < 32) :
    ((w <<< d) ||| 1#32).getLsbD i = true ↔ i = 0 ∨ d ≤ i ∧ w.getLsbD (i - d) = true := by
  have one : (1#32).getLsbD i = decide (i = 0) := by
    rw [BitVec.getLsbD_one]
    simp
  rw [BitVec.getLsbD_or, BitVec.getLsbD_shiftLeft, one]
  by_cases h0 : i = 0
  · simp [h0]
  · by_cases h : d ≤ i
    · simp [h0, hi, h, show ¬ i < d by omega]
    · simp [h0, h, show i < d by omega]

/-- The window marked at a sequence behind the high (R25). -/
theorem getLsbD_behind (w : BitVec 32) (b i : Nat) (hi : i < 32) :
    (w ||| ((1#32) <<< b)).getLsbD i = true ↔ i = b ∨ w.getLsbD i = true := by
  have bit : ((1#32) <<< b).getLsbD i = decide (i = b) := by
    rw [BitVec.getLsbD_shiftLeft, BitVec.getLsbD_one]
    by_cases h : i < b
    · simp [h, show i ≠ b by omega]
    · simp [hi, h, show (i - b = 0) ↔ i = b by omega]
  rw [BitVec.getLsbD_or, bit, Bool.or_eq_true, decide_eq_true_eq, or_comm]

theorem toNat_sub_comm (a b : BitVec 16) (h : a ≠ b) : (b - a).toNat = 65536 - (a - b).toNat := by
  have hne : a.toNat ≠ b.toNat := fun e => h (BitVec.eq_of_toNat_eq e)
  rw [BitVec.toNat_sub, BitVec.toNat_sub]
  omega

/-- Settles O25: a case for each range of the forward distance (R25, R26). -/
theorem windowDecides : Obligations.WindowDecides := by
  unfold Obligations.WindowDecides
  intro e seq flag hl hopen
  have judged : e.judge seq flag = e.judgeLive seq flag := by
    unfold PeerEntry.judge
    rw [if_neg (by simp [hl]), if_neg (by rintro ⟨h1, h2⟩; simp [h1, h2] at hopen)]
  have keep : ∀ e' : PeerEntry, e'.state = .live → (e'.onAccept flag) =
      { e' with silenceAge := 0, run := e'.run && flag } := by
    intro e' h
    simp [PeerEntry.onAccept, h]
  refine ⟨_, rfl, ?_⟩
  rw [judged]
  unfold PeerEntry.judgeLive
  dsimp only
  by_cases h0 : (seq - e.high).toNat = 0
  · rw [if_pos h0]
    exact ⟨rfl, rfl, fun _ => ⟨rfl, rfl⟩, nofun, fun _ => rfl, fun h => by omega, fun h => by omega, fun h => by omega⟩
  · rw [if_neg h0]
    have hne : seq ≠ e.high := fun h => h0 (by simp [h])
    by_cases h1 : (seq - e.high).toNat < 32768
    · rw [if_pos h1, keep _ (by exact hl)]
      refine ⟨rfl, rfl, nofun, fun _ => ⟨rfl, rfl⟩, fun h => absurd h hne, fun _ _ => ⟨rfl, rfl, rfl, fun i hi => ?_⟩,
        fun h => by omega, fun h => by omega⟩
      exact getLsbD_ahead e.window _ i hi
    · rw [if_neg h1]
      have back := toNat_sub_comm seq e.high hne
      by_cases h2 : (e.high - seq).toNat ≤ 31
      · rw [if_pos h2]
        by_cases h3 : e.marks (e.high - seq).toNat = true
        · rw [if_pos h3]
          exact ⟨rfl, rfl, fun _ => ⟨rfl, rfl⟩, nofun, fun _ => rfl, fun _ h => by omega,
            fun _ _ => ⟨fun _ => rfl, fun h => nomatch h3.symm.trans h⟩, fun _ h => by omega⟩
        · rw [if_neg h3, keep _ (by exact hl)]
          exact ⟨rfl, rfl, nofun, fun _ => ⟨rfl, rfl⟩, fun h => absurd h hne, fun _ h => by omega,
            fun _ _ => ⟨fun h => absurd h h3, fun _ => ⟨rfl, rfl, rfl, fun i hi => getLsbD_behind e.window _ i hi⟩⟩,
            fun _ h => by omega⟩
      · rw [if_neg h2, keep _ (by exact hl)]
        exact ⟨rfl, rfl, nofun, fun _ => ⟨rfl, rfl⟩, fun h => absurd h hne, fun _ h => by omega,
          fun _ h => absurd h h2, fun _ _ => ⟨rfl, rfl, rfl, rfl⟩⟩

/-! ## The election (R129, R130) -/

theorem State.isCandidate_iff (s : State) (q : Nat) : s.isCandidate q ↔ q < 63 ∧
    ((s.peer q).painter = true ∧ (s.peer q).beaconGroup = s.control.config.group ∧
        (s.peer q).beaconAge < 3 * s.control.config.interval ∨
      q = s.control.config.station ∧ s.control.valid = true ∧ s.control.clock = .reference) := by
  unfold State.isCandidate
  refine and_congr_right fun hq => or_congr Iff.rfl (and_congr_right fun hs => ?_)
  rw [State.mayTransmit_iff]
  exact ⟨fun ⟨h1, _, h3⟩ => ⟨h1, h3⟩, fun ⟨h1, h3⟩ => ⟨h1, by omega, h3⟩⟩

/-- An election leaves what R130 says. -/
theorem State.elect_elected (s : State) : s.elect.Elected := by
  intro candidate hc
  have same : ∀ q, candidate q ↔ s.isCandidate q := by
    obtain ⟨_, _, e⟩ := s.elect_frame
    intro q
    rw [hc q, State.isCandidate_iff, e]
    rfl
  refine ⟨fun hnone => ?_, fun q hq least => ?_⟩
  · rw [State.elect_free fun q hq => hnone q ((same q).2 hq)]
    exact ⟨rfl, rfl⟩
  · rw [State.elect_lowest ((same q).1 hq) fun r hr hcand => least r hr ((same r).2 hcand)]
    exact ⟨rfl, rfl⟩

/-- Settles O45: the lapse signal is taken and the election runs. -/
theorem electionNamesLowest : Obligations.ElectionNamesLowest := by
  unfold Obligations.ElectionNamesLowest
  intro s p candidate hp hm hd hc
  have e : exec (.beaconLapse p) s = goOn (s.deliverLapse p) := if_neg (by omega)
  have taken : s.deliverLapse p = (s.setPeer p { s.peer p with lapseDue := false }).elect :=
    if_pos ⟨s.isRunning_iff.2 hm, hd⟩
  rw [taken] at e
  obtain ⟨_, _, frame⟩ := State.elect_frame (s.setPeer p { s.peer p with lapseDue := false })
  have peer : ∀ q, (s.setPeer p { s.peer p with lapseDue := false }).elect.peer q =
      if q = p then { s.peer p with lapseDue := false } else s.peer q := by
    intro q
    rw [frame]
    exact State.peer_setPeer ..
  refine ⟨_, e, by rw [frame]; rfl, by rw [peer, if_pos rfl], fun q hq => by rw [peer, if_neg hq], ?_⟩
  have beacon : ∀ q, ((s.setPeer p { s.peer p with lapseDue := false }).elect.peer q).painter = (s.peer q).painter ∧
      ((s.setPeer p { s.peer p with lapseDue := false }).elect.peer q).beaconGroup = (s.peer q).beaconGroup ∧
      ((s.setPeer p { s.peer p with lapseDue := false }).elect.peer q).beaconAge = (s.peer q).beaconAge := by
    intro q
    rw [peer]
    split
    · next h => exact h ▸ ⟨rfl, rfl, rfl⟩
    · exact ⟨rfl, rfl, rfl⟩
  have control : (s.setPeer p { s.peer p with lapseDue := false }).elect.control = s.control := by rw [frame]; rfl
  have elected := (s.setPeer p { s.peer p with lapseDue := false }).elect_elected candidate fun q => by
    obtain ⟨h1, h2, h3⟩ := beacon q
    rw [h1, h2, h3, control]
    exact hc q
  rw [control] at elected
  exact elected

/-! ## Step 2 (R22 to R34) -/

section Accept

variable (s f)

/-- The sender's entry with the age of the arrival lane set to 0 (R22). -/
def State.heardEntry : PeerEntry := (s.peer f.sender).heardOn f.lane

/-- What the peer table decides for the frame (R23 to R27). -/
def State.verdict : Verdict := (s.heardEntry f).judge f.seq f.restart

/-- The entry as decided and the peer table's counters (R24, R26, R27). -/
def State.entered : State := (s.setPeer f.sender (s.verdict f).entry).counted (s.verdict f)

/-- The same with the return event of a sender that was not LIVE (R34). -/
def State.heard : State :=
  if (s.peer f.sender).state = .live then s.entered f else (s.entered f).deliverReturn f.sender

/-- The same with the beacon fields and the election of a BEACON (R31). -/
def State.accepted : State :=
  if f.kind = kindBeacon ∧ f.payload.length = 4 then
    ((s.heard f).setPeer f.sender ((s.verdict f).entry.onBeacon f.group)).elect
  else s.heard f

variable {s f}

theorem State.heardEntry_eq : s.heardEntry f = (match f.lane with
    | .a => { s.peer f.sender with ageA := 0 }
    | .b => { s.peer f.sender with ageB := 0 }) := by
  unfold State.heardEntry PeerEntry.heardOn
  cases f.lane <;> rfl

theorem State.deliverSilence_none {p : Nat} (h : (s.peer p).silenceDue = false) : s.deliverSilence p = s :=
  if_neg fun ⟨_, hd⟩ => by simp [h] at hd

/-- Step 2 where no silence event of the sender waits. -/
theorem State.acceptFrame_eq (h : (s.peer f.sender).silenceDue = false) : s.acceptFrame f =
    if (s.verdict f).accepted then (s.accepted f, true)
    else ((s.setPeer f.sender (s.heardEntry f)).bump 32 1, false) := by
  unfold State.acceptFrame
  dsimp only
  rw [State.deliverSilence_none h]
  change (if (s.verdict f).accepted = true then _ else _) = _
  split
  · have live : ((s.peer f.sender).heardOn f.lane).isLive = true ↔ (s.peer f.sender).state = .live := by
      rw [PeerEntry.isLive, PeerEntry.heardOn_state, decide_eq_true_eq]
    unfold State.accepted State.heard
    by_cases hl : (s.peer f.sender).state = .live
    · rw [if_pos hl, if_pos (live.2 hl)]
      rfl
    · rw [if_neg hl, if_neg fun h => hl (live.1 h)]
      rfl
  · rfl

theorem State.entered_frame (s : State) (f : RxFrame) :
    ∃ m, s.entered f = { s.setPeer f.sender (s.verdict f).entry with control := { s.control with running := m } } := by
  obtain ⟨m, e⟩ := (s.setPeer f.sender (s.verdict f).entry).bumpIf_frame (s.verdict f).restartRun 34
  obtain ⟨m', e'⟩ := ((s.setPeer f.sender (s.verdict f).entry).bumpIf (s.verdict f).restartRun 34).bumpIf_frame
    (s.verdict f).resync 33
  exact ⟨m', by unfold State.entered State.counted; rw [e', e]; rfl⟩

/-- The slots at a return event. -/
def State.returning (s : State) (f : RxFrame) : State := (s.entered f).mapSlots (Slot.onReturn f.sender)

theorem State.heard_live (h : (s.peer f.sender).state = .live) : s.heard f = s.entered f := if_pos h

theorem State.heard_returned (h : (s.peer f.sender).state ≠ .live) : s.heard f = (s.returning f).paintTake := if_neg h

/-- The return event leaves the peers, the group timer and the control unit. -/
theorem State.heard_kept (s : State) (f : RxFrame) : (s.heard f).peers = (s.setPeer f.sender (s.verdict f).entry).peers ∧
    (s.heard f).group = s.group ∧ (s.heard f).control = (s.entered f).control := by
  obtain ⟨m, e⟩ := s.entered_frame f
  by_cases h : (s.peer f.sender).state = .live
  · rw [State.heard_live h, e]
    exact ⟨rfl, rfl, rfl⟩
  · obtain ⟨_, _, _, e'⟩ := (s.returning f).paintTake_frame
    rw [State.heard_returned h, e']
    unfold State.returning
    rw [e]
    exact ⟨rfl, rfl, rfl⟩

theorem State.heard_peer (s : State) (f : RxFrame) (q : Nat) :
    (s.heard f).peer q = if q = f.sender then (s.verdict f).entry else s.peer q := by
  obtain ⟨peers, -, -⟩ := s.heard_kept f
  unfold State.peer
  rw [peers]
  exact storeGet_set ..

/-- A BEACON's fields and election change the peers and the group timer. -/
theorem State.accepted_frame (s : State) (f : RxFrame) : ∃ p t r, s.accepted f = { s.heard f with
    peers := p, group := { s.group with timing := t, reference := r } } := by
  obtain ⟨-, group, -⟩ := s.heard_kept f
  unfold State.accepted
  split
  · obtain ⟨t, r, e⟩ := State.elect_frame ((s.heard f).setPeer f.sender ((s.verdict f).entry.onBeacon f.group))
    exact ⟨_, t, r, by rw [e, State.setPeer_group, group]; rfl⟩
  · exact ⟨(s.heard f).peers, s.group.timing, s.group.reference, by rw [← group]⟩

theorem State.accepted_peer (s : State) (f : RxFrame) {q : Nat} (h : q ≠ f.sender) :
    (s.accepted f).peer q = s.peer q := by
  unfold State.accepted
  split
  · obtain ⟨t, r, e⟩ := State.elect_frame ((s.heard f).setPeer f.sender ((s.verdict f).entry.onBeacon f.group))
    rw [e]
    exact (State.peer_setPeer ..).trans (by rw [if_neg h, State.heard_peer, if_neg h])
  · rw [State.heard_peer, if_neg h]

theorem State.accepted_plain (h : ¬(f.kind = kindBeacon ∧ f.payload.length = 4)) : s.accepted f = s.heard f := if_neg h

theorem State.accepted_beacon (h : f.kind = kindBeacon ∧ f.payload.length = 4) : s.accepted f =
    ((s.heard f).setPeer f.sender ((s.verdict f).entry.onBeacon f.group)).elect := if_pos h

theorem State.entered_rises (hc : ∀ n, s.counter n ≤ Config.counterTop) (rest : List RxFrame) :
    s.risesTo (State.entered { s with frameQueue := rest } f)
      ((if (s.verdict f).restartRun then [(34, 1)] else []) ++ (if (s.verdict f).resync then [(33, 1)] else [])) := by
  have same : s.risesTo (State.setPeer { s with frameQueue := rest } f.sender (s.verdict f).entry) [] :=
    State.risesTo_congr (State.risesTo_refl hc) rfl fun _ => rfl
  exact State.risesTo_bumpIf (State.risesTo_bumpIf same (s.verdict f).restartRun 34) (s.verdict f).resync 33

/-- A slot at a return event (R53). -/
theorem Slot.onReturn_shows {r : Slot} {p : Nat} {x : Shown} (hb : r.bound = true) (hs : r.shown = some x)
    (hp : x.source = p) : r.onReturn p = { r with stale := false, restyle := true } :=
  if_pos (by simp [Slot.shows, hb, hs, hp])

theorem Slot.onReturn_other {r : Slot} {p : Nat} (h : r.bound = false ∨ ∀ x, r.shown = some x → x.source ≠ p) :
    r.onReturn p = r := by
  refine if_neg fun hs => ?_
  obtain ⟨hb, x, hx, hp⟩ := Slot.bound_of_shows hs
  rcases h with h | h
  · simp [hb] at h
  · exact h x hx hp

/-- An accepted frame leaves what step 2 says. -/
theorem State.accepted_accepted (hw : storeWf Slot.cold s.fields.slots = true)
    (hc : ∀ n, s.counter n ≤ Config.counterTop) (rest : List RxFrame) :
    s.Accepted (State.accepted { s with frameQueue := rest } f) f rest (s.verdict f) := by
  generalize hs' : ({ s with frameQueue := rest } : State) = s'
  have verdict : s'.verdict f = s.verdict f := by rw [← hs']; rfl
  obtain ⟨peers, group, control⟩ := s'.heard_kept f
  obtain ⟨p, t, r, frame⟩ := s'.accepted_frame f
  obtain ⟨m, entered⟩ := s'.entered_frame f
  have running : (s'.accepted f).control.running = (s'.entered f).control.running := by
    rw [frame]
    exact congrArg Control.running control
  refine { others := fun q hq => ?_, entry := fun h => ?_, beacon := fun h1 h2 => ?_, counters := ?_
           live := fun hl => ?_, returned := fun hl => ⟨s'.returning f, ?_, ?_, ?_, fun q hq => ?_, fun n x hb hx hp => ?_,
             fun n hn => ?_⟩ }
  · rw [State.accepted_peer _ _ hq, ← hs']
    rfl
  · rw [State.accepted_plain h, State.heard_peer, if_pos rfl, verdict, group, ← hs']
    exact ⟨rfl, rfl⟩
  · rw [State.accepted_beacon ⟨h1, h2⟩, verdict]
    obtain ⟨t', r', e⟩ := State.elect_frame ((s'.heard f).setPeer f.sender ((s.verdict f).entry.onBeacon f.group))
    refine ⟨State.elect_elected _, ?_, ?_⟩
    · rw [e]
      exact State.peer_setPeer_same ..
    · rw [e, State.setPeer_group, group, ← hs']
  · refine State.risesTo_congr (hs' ▸ State.entered_rises hc rest) running fun _ => rfl
  · have hl' : (s'.peer f.sender).state = .live := by rw [← hs']; exact hl
    rw [State.heard_live hl', entered] at frame
    rw [frame, ← hs']
    rfl
  · rw [frame, State.heard_returned (by rw [← hs']; exact hl)]
  · unfold State.returning State.withRunning
    rw [running, entered, ← hs']
    rfl
  · unfold State.returning
    rw [entered, ← verdict]
    exact State.peer_setPeer_same ..
  · unfold State.returning
    rw [entered]
    refine (State.peer_setPeer ..).trans ?_
    rw [if_neg hq, ← hs']
    rfl
  · have slot : (s'.returning f).slot n = (s.slot n).onReturn f.sender := by
      unfold State.returning
      rw [entered, ← hs']
      exact storeGet_map _ _ _ _ rfl hw
    rw [slot, Slot.onReturn_shows hb hx hp]
  · have slot : (s'.returning f).slot n = (s.slot n).onReturn f.sender := by
      unfold State.returning
      rw [entered, ← hs']
      exact storeGet_map _ _ _ _ rfl hw
    rw [slot, Slot.onReturn_other hn]

end Accept

/-! ## Steps 1 to 3 (R20, R21, R28) -/

theorem State.addressed_iff (s : State) (f : RxFrame) : s.addressed f = true ↔
    f.dest ≠ 63 ∧ f.dest = s.control.config.station ∨
      f.dest = 63 ∧ (f.group = s.control.config.group ∨ f.group = 15) := by
  simp [State.addressed]

theorem State.accepted_config (s : State) (f : RxFrame) : (s.accepted f).control.config = s.control.config := by
  obtain ⟨_, _, _, e⟩ := s.accepted_frame f
  obtain ⟨-, -, control⟩ := s.heard_kept f
  obtain ⟨_, entered⟩ := s.entered_frame f
  rw [e]
  exact (congrArg Control.config control).trans (by rw [entered])

theorem State.intake_accepted (hs : f.sender ≠ s.control.config.station) (hd : (s.peer f.sender).silenceDue = false)
    (ha : (s.verdict f).accepted = true) : s.intake f = (s.accepted f, s.addressed f) := by
  have addressed : (s.accepted f).addressed f = s.addressed f := by
    unfold State.addressed
    rw [State.accepted_config]
  unfold State.intake
  rw [if_neg hs, State.acceptFrame_eq hd, if_pos ha]
  simp [addressed]

theorem State.intake_duplicate (hs : f.sender ≠ s.control.config.station) (hd : (s.peer f.sender).silenceDue = false)
    (ha : (s.verdict f).accepted = false) :
    s.intake f = ((s.setPeer f.sender (s.heardEntry f)).bump 32 1, false) := by
  unfold State.intake
  rw [if_neg hs, State.acceptFrame_eq hd, if_neg (by simp [ha])]
  rfl

/-- Settles O26: a duplicate ends at the peer table, and so does an accepted frame that is addressed elsewhere. -/
theorem discardedFrameRecorded : Obligations.DiscardedFrameRecorded := by
  unfold Obligations.DiscardedFrameRecorded
  intro c takes s f rest e v hcan hc hr hready ht hs hd he hv
  obtain ⟨handler, hexec⟩ := exec_row hready c takes hr ht
  have entry : s.heardEntry f = e := State.heardEntry_eq.trans he.symm
  have verdict : s.verdict f = v := by rw [hv, ← entry]; rfl
  refine ⟨fun ha => ?_, fun ha h1 h2 => ?_⟩
  · rw [State.intake_duplicate (s := { s with frameQueue := rest }) hs hd (by rw [← ha, ← verdict]; rfl)] at hexec
    refine ⟨_, hexec, rfl, ?_, fun q hq => ?_, ?_⟩
    · exact (State.peer_setPeer_same ..).trans entry
    · exact (State.peer_setPeer ..).trans (if_neg hq)
    · exact State.risesTo_counted (t := State.setPeer { s with frameQueue := rest } f.sender _) hc rfl 32 1
  · have elsewhere : s.addressed f = false := by
      rw [← Bool.not_eq_true, State.addressed_iff]
      rintro (⟨h, h'⟩ | ⟨h, h'⟩)
      · exact h1 h h'
      · obtain ⟨h3, h4⟩ := h2 h
        exact h'.elim h3 h4
    rw [State.intake_accepted (s := { s with frameQueue := rest }) hs hd (by rw [← ha, ← verdict]; rfl),
      show State.addressed { s with frameQueue := rest } f = false from elsewhere] at hexec
    exact ⟨_, hexec, verdict ▸ State.accepted_accepted hcan.slots hc rest⟩

end Sys2Proof.Machine
end

section
/-!
PROOFS. What the closes of the overlay unit restore (R117, R118, R122, R124), and how its units end.
-/
namespace Sys2Proof.Machine

variable {s t u : State}

/-! ## The levels that a unit closes -/

/-- `t` is `s` after the closes of the levels `closed` above `kept`: each cell of their rectangles is restored from the
save record of the lowest of them that contains it, for that one is closed last (R117). -/
structure State.Closed (s t : State) (kept closed : List Level) : Prop where
  frame : t = { s with
    overlay := { s.overlay with levels := kept, used := t.overlay.used }
    store := { s.store with cells := t.store.cells, cover := t.store.cover } }
  used : t.overlay.used + savedLength closed = s.overlay.used
  restored : ∀ below lv above i, closed = below ++ lv :: above → lv.contains i → (∀ l ∈ below, ¬ l.contains i) →
    t.cell i = s.saved (lv.recordOf i)
  beside : ∀ i, (∀ lv ∈ closed, ¬ lv.contains i) → t.cell i = s.cell i
  cover : ∀ i, t.coverOf i = if kept.length < s.coverOf i then 0 else s.coverOf i

/-- No cover level is above the depth (R113). -/
theorem State.OverlayLaw.coverOf_le (h : s.OverlayLaw) (i : Nat) : s.coverOf i ≤ s.overlay.levels.length := by
  rcases hc : s.coverOf i with _ | k
  · exact Nat.zero_le _
  · obtain ⟨⟨lv, hlv, -⟩, -⟩ := h.covered i k hc
    exact (List.getElem?_eq_some_iff.1 hlv).1

/-- The close of the top level leaves its cells as its save records hold them, and no other cell changed. -/
theorem State.cell_closeTop {below : List Level} {lv : Level} (h : s.overlay.levels = below ++ [lv]) (i : Nat) :
    s.closeTop.cell i = if i ∈ lv.cells then s.saved (lv.recordOf i) else s.cell i := by
  rw [State.closeTop_concat h]
  exact storeGet_setAll_map ..

theorem State.closeTops_closed (hc : s.Canonical) (hs : s.OverlayLaw) (hn : s.notOpening) {kept closed : List Level}
    (h : s.overlay.levels = kept ++ closed) : s.Closed (State.closeTops closed.length s) kept closed := by
  induction closed using List.reverseRecOn generalizing s with
  | nil =>
    rw [List.append_nil] at h
    refine ⟨?_, rfl, fun below lv above i e => by simp at e, fun _ _ => rfl, fun i => ?_⟩
    · rw [← h]
      rfl
    · exact (if_neg (Nat.not_lt.2 (h ▸ hs.coverOf_le i))).symm
  | append_singleton closed lv ih =>
    rw [← List.append_assoc] at h
    have cell := State.cell_closeTop h
    have total : s.closeTop.overlay.used + lv.length = s.overlay.used := by
      rw [State.closeTop_concat h, hs.used, h, savedLength_concat]
      exact congrArg (· + lv.length) (Nat.add_sub_cancel ..)
    have top := hs.level (kept ++ closed).length lv (by simp [h])
    have inside : ∀ i, i ∈ lv.cells ↔ lv.contains i := Level.mem_cells_iff top.2.2.2.1
    have saved : ∀ j, s.closeTop.saved j = s.saved j := fun j => by
      rw [State.closeTop_concat h]
      rfl
    obtain ⟨frame, used, restored, beside, cover⟩ := ih hc.closeTop (hs.closeTop hc.cover hn)
      (by rw [State.notOpening, State.closeTop_concat h]; exact hn) (by rw [State.closeTop_concat h])
    rw [List.length_append, List.length_singleton]
    refine ⟨?frame, ?used, fun below l above i e hi low => ?restored, fun i hi => ?beside, fun i => ?cover⟩
    case frame =>
      change State.closeTops closed.length s.closeTop = _
      rw [State.closeTops]
      generalize State.closeTops closed.length s.closeTop = v at frame
      refine frame.trans ?_
      rw [State.closeTop_concat h]
    case used =>
      rw [savedLength_concat, ← total, ← used]
      exact (Nat.add_assoc ..).symm
    case restored =>
      rcases List.eq_nil_or_concat above with rfl | ⟨above, l', rfl⟩
      · obtain ⟨rfl, e⟩ := List.append_inj' e rfl
        obtain rfl : lv = l := by simpa using e
        exact (beside i low).trans ((cell i).trans (if_pos ((inside i).2 hi)))
      · rw [List.concat_eq_append, ← List.cons_append, ← List.append_assoc] at e
        obtain ⟨e, -⟩ := List.append_inj' e rfl
        exact (restored below l above i e hi low).trans (saved _)
    case beside =>
      refine (beside i fun l hl => hi l (List.mem_append_left _ hl)).trans ((cell i).trans (if_neg ?_))
      exact fun mem => hi lv (by simp) ((inside i).1 mem)
    case cover =>
      rw [State.closeTops, cover, State.coverOf_closeTop hc.cover h]
      by_cases e : s.coverOf i = (kept ++ closed).length + 1
      · have : kept.length < s.coverOf i := by simp only [e, List.length_append]; omega
        rw [if_pos e, if_pos this]
        exact ite_self _
      · rw [if_neg e]

section Kept

variable {kept closed : List Level} (h : s.Closed t kept closed)

include h

theorem State.Closed.levels : t.overlay.levels = kept := by rw [h.frame]

theorem State.Closed.save : t.overlay.save = s.overlay.save := by rw [h.frame]

theorem State.Closed.owner : t.store.owner = s.store.owner := by rw [h.frame]

end Kept

/-- With every level closed the screen shows the base layer (R118, R120). -/
theorem State.Closed.base (hs : s.OverlayLaw) (h : s.Closed t [] s.overlay.levels) (i : Nat) :
    t.cell i = s.baseCell i := by
  unfold State.baseCell State.saveKey
  rcases hc : s.coverOf i with _ | k
  · exact h.beside i (hs.uncovered i hc)
  · obtain ⟨⟨lv, hlv, hi⟩, low⟩ := hs.covered i k hc
    obtain ⟨hk, e⟩ := List.getElem?_eq_some_iff.1 hlv
    have split : s.overlay.levels = s.overlay.levels.take k ++ lv :: s.overlay.levels.drop (k + 1) := by
      rw [← e, List.cons_getElem_drop_succ, List.take_append_drop]
    dsimp only
    rw [hlv]
    refine h.restored _ lv _ i split hi fun l hl => ?_
    obtain ⟨j, hj, e⟩ := List.getElem_of_mem hl
    rw [List.length_take] at hj
    rw [List.getElem_take] at e
    exact low j l (by omega) (List.getElem?_eq_some_iff.2 ⟨by omega, e⟩)

/-! ## The painter goes on (R154) -/

/-- RUNNING is entered, before the election and what follows it (R1, R126, R153). -/
def State.opened (s : State) : State :=
  { s with
    control := { s.control with mode := .running, coldCause := none }
    portA := s.portA.start
    portB := s.portB.start
    group := { s.group with countdown := s.control.config.interval } }

theorem State.enterRunning_eq (s : State) :
    s.enterRunning = s.opened.elect.inEitherOrder State.needRepaint State.paintTake := rfl

/-- What RUNNING is entered with. -/
theorem State.enterRunning_frame (s : State) : ∃ timing reference r m slots o h n, s.enterRunning = { s with
    control := { s.control with mode := .running, coldCause := none }
    portA := s.portA.start
    portB := s.portB.start
    group := { s.group with countdown := s.control.config.interval, timing := timing, reference := reference }
    crawl := { s.crawl with request := r, repeatMark := m }
    fields := { s.fields with slots := slots }
    paint := o, port := h, freeCount := n } := by
  obtain ⟨timing, reference, elected⟩ := s.opened.elect_frame
  rw [s.enterRunning_eq, elected]
  rcases State.inEitherOrder_frame _ State.needRepaint State.paintTake with e | e <;> rw [e]
  · obtain ⟨r, m, h, repaint⟩ := State.needRepaint_frame _
    rw [repaint]
    obtain ⟨slots, o, h, take⟩ := State.paintTake_frame _
    rw [take]
    exact ⟨_, _, _, _, _, _, _, _, rfl⟩
  · obtain ⟨slots, o, h, take⟩ := State.paintTake_frame _
    rw [take]
    obtain ⟨r, m, h, repaint⟩ := State.needRepaint_frame _
    rw [repaint]
    exact ⟨_, _, _, _, _, _, _, _, rfl⟩

/-- A warm reset that goes on sends nothing and takes no frame in hand. -/
theorem State.afterUnit_lanes (s : State) : s.afterUnit.tx = s.tx ∧ s.afterUnit.hand = s.hand := by
  unfold State.afterUnit State.warmProgress
  split
  · split
    · simp
    · split
      · obtain ⟨_, _, _, _, _, _, _, _, e⟩ := s.enterRunning_frame
        simp [e]
      · simp
  · simp

/-! ## The obligations -/

/-- Settles O38: the unit's one close is `State.closeTops_closed` for the top level, the end of the unit keeps the
screen, and while RUNNING it answers the frame in hand. -/
theorem closeApplied : Obligations.CloseApplied := by
  unfold Obligations.CloseApplied
  intro s below lv hc hs hl hp hr
  have e : exec .closeUnit s = .next ((s.closeTop.scanned s).overlayEnded 2 s.overlay.levels.length) := by
    simp [exec, execCloseUnit, goOn, State.endClose, hp, hr]
  have same := State.overlayEnded_sameScreen (s.closeTop.scanned s) 2 s.overlay.levels.length
  have closed : s.Closed s.closeTop below [lv] := State.closeTops_closed hc hs (State.notOpening_of hr nofun) hl
  obtain ⟨-, -, -, hw, hlen, -⟩ := hs.level below.length lv (by simp [hl])
  refine ⟨_, e, (s.scansOn_scanned _).sameScreen same, ?levels, ?used, ?owner, ?save, fun y x hy hx => ?inside,
    fun i hi => ?outside, fun i => ?cover, fun sender seq hm hh => ?answer⟩
  case levels => exact same.levels.trans closed.levels
  case used =>
    rw [same.used, ← hlen, ← closed.used]
    rfl
  case owner => exact (congrArg CellStore.owner same.store).trans closed.owner
  case save => exact same.save.trans closed.save
  case inside =>
    have hin : lv.contains (cellKey (lv.top + y) (lv.left + x)) :=
      (Level.mem_cells_iff hw _).1 ((lv.mem_cells _).2 ⟨y, x, hy, hx, rfl⟩)
    refine (same.cell _).trans ((closed.restored [] lv [] _ rfl hin nofun).trans ?_)
    rw [Level.recordOf_cellKey hw hx]
  case outside => exact (same.cell i).trans (closed.beside i (by simpa using hi))
  case cover =>
    refine (same.coverOf i).trans ((closed.cover i).trans ?_)
    have := hs.coverOf_le i
    rw [hl, List.length_append, List.length_singleton] at this
    exact if_congr (by omega) rfl rfl
  case answer =>
    have frame := closed.frame
    refine ⟨_, ?_, State.overlayAnswered_overlayEnded (s := s.closeTop.scanned s) (by rw [frame]; exact hm)
      (by rw [frame]; exact hh) 2 _ rfl⟩
    rw [same.store, same.overlay]
    generalize s.closeTop = v at frame
    rw [frame]
    rfl

/-- What is on the screen, in the cover map and in the save area once every level is closed (R118, R124). -/
theorem State.closeAll_screen (hc : s.Canonical) (hs : s.OverlayLaw) (hn : s.notOpening)
    (same : (s.closeAll.scanned s).SameScreen t) : s.ScansOn t ∧ t.overlay.levels = [] ∧ t.overlay.used = 0 ∧
      t.store.owner = s.store.owner ∧ t.overlay.save = s.overlay.save ∧
      ∀ i, t.coverOf i = 0 ∧ t.cell i = s.baseCell i := by
  have closed : s.Closed s.closeAll [] s.overlay.levels := State.closeTops_closed hc hs hn rfl
  refine ⟨(s.scansOn_scanned _).sameScreen same, same.levels.trans closed.levels, ?_,
    (congrArg CellStore.owner same.store).trans closed.owner, same.save.trans closed.save, fun i => ⟨?_, ?_⟩⟩
  · have used : s.closeAll.overlay.used + savedLength s.overlay.levels = s.overlay.used := closed.used
    rw [same.used]
    change s.closeAll.overlay.used = 0
    have := hs.used
    omega
  · refine (same.coverOf i).trans ((closed.cover i).trans ?_)
    split
    · rfl
    · next h => exact Nat.eq_zero_of_not_pos h
  · exact (same.cell i).trans (State.Closed.base hs closed i)

/-- The unwinding's unit ends a warm reset that nothing else holds up (R154). -/
theorem State.afterUnit_unwound (hm : s.control.mode = .unwinding) (hl : s.overlay.levels = []) (hc : s.crawl.request = false)
    (hp : s.paint = none) (ht : s.text = none) : s.overlayFreed.afterUnit.control.mode = .running ∧
      s.overlayFreed.afterUnit.overlay.request = none := by
  have free : s.overlayFreed.port.holder = none := by
    rw [State.overlayFreed, State.release_holder, if_neg (by simp [hm]), State.nextWaiting_eq]
    simp [grantOrder, hc, hp, ht]
  have overlay : s.overlayFreed.overlay = { s.overlay with request := none } := State.release_overlay _
  obtain ⟨_, _, _, _, _, _, _, _, e⟩ := State.enterRunning_frame s.overlayFreed
  have entered : s.overlayFreed.afterUnit = s.overlayFreed.enterRunning := by
    unfold State.afterUnit State.warmProgress
    rw [if_pos (by rw [State.overlayFreed_control]; exact hm), if_neg (by simp [overlay, hl]), if_pos free]
  rw [entered, e]
  exact ⟨rfl, congrArg Overlay.request overlay⟩

/-- Settles O39: the closes of every level (`State.closeAll_screen`); a CLOSE_ALL then answers the frame in hand, and the
unwinding lets the warm reset go on. -/
theorem stackUnwound : Obligations.StackUnwound := by
  unfold Obligations.StackUnwound
  rintro s c hc hs hp (⟨rfl, hr⟩ | ⟨rfl, hr⟩)
  case inl =>
    have e : exec .closeAllUnit s = .next ((s.closeAll.scanned s).overlayEnded 3 s.overlay.levels.length) := by
      simp [exec, execCloseAllUnit, goOn, State.endCloseAll, hp, hr]
    have same := State.overlayEnded_sameScreen (s.closeAll.scanned s) 3 s.overlay.levels.length
    obtain ⟨scans, levels, used, owner, save, base⟩ :=
      State.closeAll_screen hc hs (State.notOpening_of hr nofun) same
    refine ⟨_, e, scans, levels, used, owner, save, base, fun sender seq _ hm hh => ?_, nofun⟩
    obtain ⟨_, _, _, _, frame⟩ := s.closeTops_frame s.overlay.levels.length
    refine ⟨_, ?_, State.overlayAnswered_overlayEnded (s := s.closeAll.scanned s)
      (by rw [State.closeAll, frame]; exact hm) (by rw [State.closeAll, frame]; exact hh) 3 _ rfl⟩
    rw [same.store, same.overlay, State.closeAll, frame]
    rfl
  case inr =>
    have e : exec .unwinding s = .next (s.closeAll.scanned s).overlayFreed.afterUnit := by
      simp [exec, execUnwinding, goOn, State.endUnwinding, hp, hr]
    have same := (State.overlayFreed_sameScreen (s.closeAll.scanned s)).trans (State.afterUnit_sameScreen _)
    obtain ⟨scans, levels, used, owner, save, base⟩ :=
      State.closeAll_screen hc hs (State.notOpening_of hr nofun) same
    obtain ⟨_, _, _, _, frame⟩ := s.closeTops_frame s.overlay.levels.length
    obtain ⟨tx, hand⟩ := (s.closeAll.scanned s).overlayFreed.afterUnit_lanes
    refine ⟨_, e, scans, levels, used, owner, save, base, nofun, fun _ => ⟨tx.trans ?_, hand.trans ?_, ?_⟩⟩
    · simp [State.overlayFreed, State.closeAll, frame, State.scanned]
    · simp [State.overlayFreed, State.closeAll, frame, State.scanned]
    · intro hm hq hpaint htext
      have emptied : (s.closeAll.scanned s).overlay.levels = [] := by rw [← same.levels, levels]
      refine State.afterUnit_unwound ?_ emptied ?_ ?_ ?_ <;> rw [State.closeAll, frame] <;> assumption

/-- What an orphan close decides at its grant (R122). -/
theorem State.silentTops_append {kept closed : List Level} (h : s.overlay.levels = kept ++ closed)
    (silent : ∀ lv ∈ closed, (s.peer lv.requester).state = .silent)
    (top : ∀ lv, kept.getLast? = some lv → (s.peer lv.requester).state ≠ .silent) : s.silentTops = closed.length := by
  unfold State.silentTops
  rw [h, List.reverse_append, List.takeWhile_append_of_pos (by simpa using silent), List.length_append,
    List.length_reverse]
  rcases List.eq_nil_or_concat kept with rfl | ⟨below, lv, rfl⟩
  · rfl
  · have := top lv (by simp)
    simp [this]

/-- Settles O40: what the grant counts (`State.silentTops_append`), the closes of that many levels
(`State.closeTops_closed`), and the end of the unit. -/
theorem orphansClosed : Obligations.OrphansClosed := by
  unfold Obligations.OrphansClosed
  refine ⟨fun s kept closed hr hl silent top => ?grant, fun s hr => ?other,
    fun s kept closed hc hs hm hp hr hl => ?applied⟩
  case grant =>
    have counted : ({ s with port := { s.port with holder := some .overlay } } : State).silentTops = closed.length :=
      State.silentTops_append hl silent top
    unfold State.grant State.grantOverlay
    simp only [hr, counted]
  case other =>
    unfold State.grant State.grantOverlay
    dsimp only
    split
    · next h => exact absurd h hr
    · rfl
  case applied =>
    have applied : s.applyOrphan = State.closeTops closed.length s := by simp [State.applyOrphan, hp]
    have e : exec .orphanClose s = .next
        ((s.applyOrphan.scanned s).overlayFreed.orphanCheck).afterUnit := by
      simp [exec, execOrphanClose, goOn, State.endOrphan, hp, hr]
    rw [applied] at e
    have closes : s.Closed _ kept closed := State.closeTops_closed hc hs (State.notOpening_of hr nofun) hl
    have scans := s.scansOn_scanned (State.closeTops closed.length s)
    have frame := closes.frame
    generalize State.closeTops closed.length s = v at e closes frame scans
    have control : v.control = s.control := by rw [frame]
    have mode : (v.scanned s).control.mode = .running := by
      rw [← hm, ← control]
      rfl
    have freed : (v.scanned s).overlayFreed = ({ v.scanned s with
        overlay := { v.overlay with request := none } } : State).portPassed
          (grantOrder false s.crawl.request s.paint.isSome s.text.isSome) := by
      have outside : ({ v.scanned s with overlay := { v.overlay with request := none } } : State).control.mode ≠ .held :=
        ne_of_eq_of_ne mode nofun
      refine (State.release_eq_portPassed _ outside).trans ?_
      rw [frame]
      rfl
    have running : ((v.scanned s).overlayFreed).control.mode = .running := by
      rw [State.overlayFreed_control]
      exact mode
    refine ⟨{ v.scanned s with overlay := { v.overlay with request := none } }, _, e,
      scans.sameScreen ⟨rfl, rfl, rfl, rfl, rfl, rfl⟩, ?_, closes.used, closes.restored, closes.beside, closes.cover, ?_⟩
    · rw [frame]
      rfl
    · rw [State.afterUnit_of_ne _ (by rw [State.orphanCheck_control, running]; nofun), ← freed]
      exact State.orphansChecked_orphanCheck running

end Sys2Proof.Machine
end

section
/-!
PROOFS. The payloads of QUOTE, PAINT, LAYOUT and OVERLAY frames (11.2): a payload is read exactly when it is laid out as
the fields that are read.
-/
namespace Sys2Proof.Machine

/-! ## Bytes -/

theorem toNat_eq_iff (b : Byte) (n : Nat) : b.toNat = n ↔ n < 256 ∧ b = byteOf n := by
  constructor
  · rintro rfl
    exact ⟨b.isLt, by rw [byteOf, BitVec.ofNat_toNat, BitVec.setWidth_eq]⟩
  · rintro ⟨h, rfl⟩
    exact byteOf_toNat h

theorem be16_toNat_eq_iff (hi lo : Byte) (n : Nat) : (be16 hi lo).toNat = n ↔
    n < 65536 ∧ hi = (BitVec.ofNat 16 n).extractLsb' 8 8 ∧ lo = (BitVec.ofNat 16 n).extractLsb' 0 8 := by
  rw [← be16_eq_iff]
  constructor
  · rintro rfl
    exact ⟨(be16 hi lo).isLt, by rw [BitVec.ofNat_toNat, BitVec.setWidth_eq]⟩
  · rintro ⟨h, e⟩
    rw [e, BitVec.toNat_ofNat]
    exact Nat.mod_eq_of_lt h

theorem extractLsb'_within {n start len start' len' : Nat} (w : BitVec n) (h : start' + len' ≤ len) :
    (w.extractLsb' start len).extractLsb' start' len' = w.extractLsb' (start + start') len' := by
  ext i hi
  have inside : start' + i < len := by omega
  simp [inside, Nat.add_assoc]

theorem be32_eq_iff (a b c d : Byte) (w : BitVec 32) : be32 a b c d = w ↔ a = w.extractLsb' 24 8 ∧
    b = w.extractLsb' 16 8 ∧ c = w.extractLsb' 8 8 ∧ d = w.extractLsb' 0 8 := by
  unfold be32
  have one := append_eq_iff_extractLsb' (m := 24) (n := 8) (a ++ b ++ c) d w
  have two := append_eq_iff_extractLsb' (m := 16) (n := 8) (a ++ b) c (w.extractLsb' 8 24)
  have three := append_eq_iff_extractLsb' (m := 8) (n := 8) a b ((w.extractLsb' 8 24).extractLsb' 8 16)
  refine (one.trans (and_congr_left' (two.trans (and_congr_left' three)))).trans ?_
  simp [extractLsb'_within, and_assoc]

/-- A byte whose two halves carry two codes. -/
theorem halves_eq_iff (b : Byte) (hi lo : Nat) : b.toNat / 16 = hi ∧ b.toNat % 16 = lo ↔
    hi < 16 ∧ lo < 16 ∧ b = byteOf (16 * hi + lo) := by
  have hb := b.isLt
  constructor
  · rintro ⟨rfl, rfl⟩
    refine ⟨by omega, by omega, ((toNat_eq_iff b _).1 ?_).2⟩
    omega
  · rintro ⟨h, h', rfl⟩
    rw [byteOf_toNat (by omega)]
    omega

/-- The byte of a BIND's priority, unassigned bits and flags. -/
theorem priorityByte_eq_iff (b : Byte) (priority spare : Nat) (half group : Bool) :
    b.toNat / 16 = priority ∧ b.toNat / 4 % 4 = spare ∧ b.getLsbD 1 = half ∧ b.getLsbD 0 = group ↔
      priority < 16 ∧ spare < 4 ∧ b = byteOf (16 * priority + 4 * spare + 2 * half.toNat + group.toNat) := by
  have bit (i : Nat) (hi : i < 8) : b.getLsbD i = b.toNat.testBit i := rfl
  have hb := b.isLt
  have low : b.toNat = 16 * (b.toNat / 16) + 4 * (b.toNat / 4 % 4) + 2 * (b.getLsbD 1).toNat + (b.getLsbD 0).toNat := by
    rw [bit 1 (by omega), bit 0 (by omega), Nat.toNat_testBit, Nat.toNat_testBit]
    omega
  constructor
  · rintro ⟨rfl, rfl, rfl, rfl⟩
    exact ⟨by omega, by omega, ((toNat_eq_iff b _).1 low).2⟩
  · rintro ⟨h, h', rfl⟩
    have := half.toNat_le
    have := group.toNat_le
    have value := byteOf_toNat (n := 16 * priority + 4 * spare + 2 * half.toNat + group.toNat) (by omega)
    have flag : ∀ x y : Bool, x.toNat = y.toNat → x = y := by decide
    refine ⟨by omega, by omega, flag _ _ ?_, flag _ _ ?_⟩
    · change ((byteOf _).toNat.testBit 1).toNat = _
      rw [Nat.toNat_testBit]
      omega
    · change ((byteOf _).toNat.testBit 0).toNat = _
      rw [Nat.toNat_testBit]
      omega

/-! ## PAINT -/

theorem paintTarget_iff (target : Byte) (top : Bool) : target.toNat ≤ 1 ∧ decide (target = 1) = top ↔
    target = if top then 1 else 0 := by
  have : target.toNat ≤ 1 ↔ target = 0 ∨ target = 1 := by rw [← byte_lt_two_iff]; omega
  rw [this]
  cases top
  · simp only [decide_eq_false_iff_not, Bool.false_eq_true, if_false]
    refine ⟨fun h => h.1.resolve_right h.2, ?_⟩
    rintro rfl
    decide
  · simp only [decide_eq_true_eq, if_true]
    exact ⟨And.right, fun h => ⟨.inr h, h⟩⟩

theorem parsePaint_eq_some_iff (payload : List Byte) (top : Bool) (run : Run) :
    parsePaint payload = some (top, run) ↔
      run.row < 256 ∧ run.col < 256 ∧ (top = false → run.row ≤ 47 ∧ run.col ≤ 127) ∧ run.glyphs ≠ [] ∧
      payload = [if top then 1 else 0, byteOf run.row, byteOf run.col, run.fg ++ run.bg, attrsByte run.attrs] ++
        run.glyphs := by
  obtain ⟨row, col, fg, bg, attrs, glyphs⟩ := run
  unfold parsePaint
  split
  next target r c colours a g rest =>
    have read : (if target.toNat ≤ 1 ∧ a.toNat < 16 ∧ (target = 1 ∨ (r.toNat ≤ 47 ∧ c.toNat ≤ 127)) then
        some (decide (target = 1), Run.mk r.toNat c.toNat (fgOf colours) (bgOf colours) (attrsOfByte a) (g :: rest))
        else none) = some (top, Run.mk row col fg bg attrs glyphs) ↔
        (target.toNat ≤ 1 ∧ decide (target = 1) = top) ∧ (target = 1 ∨ (r.toNat ≤ 47 ∧ c.toNat ≤ 127)) ∧
          r.toNat = row ∧ c.toNat = col ∧ (fgOf colours = fg ∧ bgOf colours = bg) ∧
          (a.toNat < 16 ∧ attrsOfByte a = attrs) ∧ g :: rest = glyphs := by
      simp only [Option.ite_none_right_eq_some, Option.some.injEq, Prod.mk.injEq, Run.mk.injEq]
      tauto
    rw [read, paintTarget_iff, colours_eq_iff, attrs_eq_iff]
    simp only [List.cons_append, List.nil_append, List.cons.injEq]
    constructor
    · rintro ⟨rfl, range, rfl, rfl, hc, ha, rfl⟩
      refine ⟨r.isLt, c.isLt, fun h => range.resolve_left (by simp [h]), nofun, rfl, ?_, ?_, hc, ha, rfl⟩
      · exact ((toNat_eq_iff r _).1 rfl).2
      · exact ((toNat_eq_iff c _).1 rfl).2
    · rintro ⟨hr, hcol, range, -, rfl, hr', hc', hc, ha, hg⟩
      have row := (toNat_eq_iff r row).2 ⟨hr, hr'⟩
      have col := (toNat_eq_iff c col).2 ⟨hcol, hc'⟩
      refine ⟨rfl, ?_, row, col, hc, ha, hg⟩
      rw [row, col]
      cases top
      · exact .inr (range rfl)
      · exact .inl rfl
  next other =>
    refine ⟨nofun, ?_⟩
    rintro ⟨-, -, -, some_glyph, h⟩
    obtain ⟨g, rest, rfl⟩ := List.exists_cons_of_ne_nil some_glyph
    exact (other _ _ _ _ _ _ _ h).elim

/-! ## OVERLAY -/

theorem parseOverlay_eq_some_iff (payload : List Byte) (op : OverlayOp) :
    parseOverlay payload = some op ↔ op.Coded ∧ payload = op.bytes := by
  unfold parseOverlay
  split
  next code top left height width flags colours =>
    cases op with
    | openLevel op =>
      obtain ⟨t, l, h, w, fl, fg, bg⟩ := op
      have read : (if code = 1 then some (OverlayOp.openLevel ⟨top.toNat, left.toNat, height.toNat, width.toNat, flags,
          fgOf colours, bgOf colours⟩) else none) = some (.openLevel ⟨t, l, h, w, fl, fg, bg⟩) ↔
          code = 1 ∧ top.toNat = t ∧ left.toNat = l ∧ height.toNat = h ∧ width.toNat = w ∧ flags = fl ∧
            (fgOf colours = fg ∧ bgOf colours = bg) := by
        simp
      rw [read, colours_eq_iff]
      simp only [toNat_eq_iff, OverlayOp.Coded, OverlayOp.bytes, List.cons.injEq, and_true]
      tauto
    | close => simp [OverlayOp.bytes]
    | closeAll => simp [OverlayOp.bytes]
  next code =>
    cases op with
    | openLevel op =>
      refine ⟨fun h => ?_, fun h => by simp [OverlayOp.bytes] at h⟩
      split at h
      · cases h
      · split at h <;> cases h
    | close => by_cases h : code = 2#8 <;> simp [OverlayOp.bytes, OverlayOp.Coded, h]
    | closeAll =>
      by_cases h : code = 2#8
      · simp [OverlayOp.bytes, h]
      · simp [OverlayOp.bytes, OverlayOp.Coded, h]
  next other none =>
    refine ⟨nofun, ?_⟩
    rintro ⟨-, h⟩
    cases op
    · exact (other _ _ _ _ _ _ _ h).elim
    · exact (none _ h).elim
    · exact (none _ h).elim

/-! ## QUOTE -/

theorem parseItems_bytes {it : Item} (h : it.Coded) (n : Nat) (rest : List Byte) :
    parseItems (n + 1) (it.bytes ++ rest) = (parseItems n rest).map (fun is => it :: is) := by
  obtain ⟨field, value⟩ := it
  obtain ⟨hf, hv⟩ := h
  cases value with
  | numeric scale raw =>
    have hf : field < 32 := hf
    have hv : scale < 256 := hv
    have marker : (byteOf (32 + field)).toNat = 32 + field := byteOf_toNat (by omega)
    have raw' := (be32_eq_iff _ _ _ _ raw).2 ⟨rfl, rfl, rfl, rfl⟩
    have h1 : (32 + field) / 32 = 1 := by omega
    have h2 : (32 + field) % 32 = field := by omega
    simp [Item.bytes, parseItems, marker, h1, h2, bytes32, byteOf_toNat hv, raw']
  | text glyphs =>
    have hf : field < 32 := hf
    obtain ⟨hv, hv'⟩ : 1 ≤ glyphs.length ∧ glyphs.length ≤ 12 := hv
    have marker : (byteOf (64 + field)).toNat = 64 + field := byteOf_toNat (by omega)
    have count : (byteOf glyphs.length).toNat = glyphs.length := byteOf_toNat (by omega)
    have h1 : (64 + field) / 32 = 2 := by omega
    have h2 : (64 + field) % 32 = field := by omega
    simp [Item.bytes, parseItems, marker, h1, h2, count, hv, hv']

/-- The first item of a readable list, and the bytes behind it. -/
theorem parseItems_succ {n : Nat} {payload : List Byte} {items : List Item}
    (h : parseItems (n + 1) payload = some items) : ∃ it rest more, it.Coded ∧ payload = it.bytes ++ rest ∧
      items = it :: more ∧ parseItems n rest = some more := by
  obtain _ | ⟨marker, rest⟩ := payload
  · cases h
  have hb := marker.isLt
  unfold parseItems at h
  split at h
  next hm =>
    split at h
    next scale a b c d rest =>
      obtain ⟨more, hmore, rfl⟩ := Option.map_eq_some_iff.1 h
      refine ⟨_, rest, more, ⟨Nat.mod_lt _ (by omega), scale.isLt⟩, ?_, rfl, hmore⟩
      obtain ⟨ha, hb', hc, hd⟩ := (be32_eq_iff a b c d _).1 rfl
      have marked : marker = byteOf (32 + marker.toNat % 32) := ((toNat_eq_iff _ _).1 (by omega)).2
      have scaled : scale = byteOf scale.toNat := ((toNat_eq_iff _ _).1 rfl).2
      simp only [Item.bytes, bytes32, ← ha, ← hb', ← hc, ← hd, ← marked, ← scaled]
      rfl
    next => cases h
  next =>
    split at h
    next hm =>
      split at h
      next count rest =>
        split at h
        next hc =>
          obtain ⟨more, hmore, rfl⟩ := Option.map_eq_some_iff.1 h
          obtain ⟨h1, h12, hlen⟩ := hc
          have taken : (rest.take count.toNat).length = count.toNat := by simpa using hlen
          refine ⟨_, _, more, ⟨Nat.mod_lt _ (by omega), ?_⟩, ?_, rfl, hmore⟩
          · exact ⟨by rw [taken]; exact h1, by rw [taken]; exact h12⟩
          · have marked : marker = byteOf (64 + marker.toNat % 32) := ((toNat_eq_iff _ _).1 (by omega)).2
            have counted : count = byteOf count.toNat := ((toNat_eq_iff _ _).1 rfl).2
            simp only [Item.bytes, taken, ← marked, ← counted, List.cons_append, List.nil_append,
              List.take_append_drop]
        next => cases h
      next => cases h
    next => cases h

theorem parseItems_eq_some_iff (n : Nat) (payload : List Byte) (items : List Item) :
    parseItems n payload = some items ↔
      items.length = n ∧ (∀ it ∈ items, it.Coded) ∧ payload = items.flatMap Item.bytes := by
  constructor
  · intro h
    induction n generalizing payload items with
    | zero =>
      cases payload with
      | nil => cases h; simp
      | cons => cases h
    | succ n ih =>
      obtain ⟨it, rest, more, coded, rfl, rfl, hmore⟩ := parseItems_succ h
      obtain ⟨rfl, all, rfl⟩ := ih rest more hmore
      exact ⟨rfl, List.forall_mem_cons.2 ⟨coded, all⟩, rfl⟩
  · rintro ⟨rfl, all, rfl⟩
    induction items with
    | nil => rfl
    | cons it items ih =>
      obtain ⟨coded, all⟩ := List.forall_mem_cons.1 all
      rw [List.flatMap_cons, List.length_cons, parseItems_bytes coded, ih all]
      rfl

theorem parseQuote_eq_some_iff (payload : List Byte) (instrument : Nat) (items : List Item) :
    parseQuote payload = some (instrument, items) ↔
      instrument ≤ 4095 ∧ 1 ≤ items.length ∧ items.length ≤ 8 ∧ (∀ it ∈ items, it.Coded) ∧
      payload = bytes16 (BitVec.ofNat 16 instrument) ++ [byteOf items.length] ++ items.flatMap Item.bytes := by
  unfold parseQuote
  split
  next i1 i0 count rest =>
    have read : (if (be16 i1 i0).toNat ≤ 4095 ∧ 1 ≤ count.toNat ∧ count.toNat ≤ 8 then
        (parseItems count.toNat rest).map (fun is => ((be16 i1 i0).toNat, is)) else none) = some (instrument, items) ↔
        (be16 i1 i0).toNat = instrument ∧ (instrument ≤ 4095 ∧ 1 ≤ count.toNat ∧ count.toNat ≤ 8) ∧
          parseItems count.toNat rest = some items := by
      simp only [Option.ite_none_right_eq_some, Option.map_eq_some_iff, Prod.mk.injEq]
      constructor
      · rintro ⟨range, is, h, rfl, rfl⟩
        exact ⟨rfl, range, h⟩
      · rintro ⟨rfl, range, h⟩
        exact ⟨range, items, h, rfl, rfl⟩
    rw [read, be16_toNat_eq_iff, parseItems_eq_some_iff]
    simp only [bytes16, List.cons_append, List.nil_append, List.cons.injEq]
    constructor
    · rintro ⟨⟨-, h1, h0⟩, ⟨hi, hc, hc'⟩, hlen, coded, rfl⟩
      rw [hlen]
      exact ⟨hi, hc, hc', coded, h1, h0, ((toNat_eq_iff _ _).1 rfl).2, rfl⟩
    · rintro ⟨hi, hc, hc', coded, h1, h0, rfl, rfl⟩
      have count : (byteOf items.length).toNat = items.length := byteOf_toNat (by omega)
      rw [count]
      exact ⟨⟨by omega, h1, h0⟩, ⟨hi, hc, hc'⟩, rfl, coded, rfl⟩
  next other =>
    refine ⟨nofun, ?_⟩
    rintro ⟨-, -, -, -, h⟩
    exact (other _ _ _ _ h).elim

/-! ## LAYOUT -/

theorem parseBind_eq_some_iff (payload : List Byte) (op : BindOp) (rest : List Byte) :
    parseBind payload = some (op, rest) ↔
      (LayoutOp.bind op).Coded ∧ 1 :: payload = (LayoutOp.bind op).bytes ++ rest := by
  obtain ⟨n, source, instrument, field, row, col, width, kind, rule, places, expo, priority, spare, half, group, fg, bg,
    attrs⟩ := op
  unfold parseBind
  split
  next slot' source' i1 i0 field' row' col' width' kr dk pf colours attrs' rest' =>
    have read : (some (BindOp.mk slot'.toNat source'.toNat (be16 i1 i0).toNat field'.toNat row'.toNat col'.toNat
        width'.toNat (kr.toNat / 16) (kr.toNat % 16) (dk.toNat / 16) (dk.toNat % 16) (pf.toNat / 16)
        (pf.toNat / 4 % 4) (pf.getLsbD 1) (pf.getLsbD 0) (fgOf colours) (bgOf colours) attrs', rest') =
        some (BindOp.mk n source instrument field row col width kind rule places expo priority spare half group fg bg
          attrs, rest)) ↔
        slot'.toNat = n ∧ source'.toNat = source ∧ (be16 i1 i0).toNat = instrument ∧ field'.toNat = field ∧
          row'.toNat = row ∧ col'.toNat = col ∧ width'.toNat = width ∧ (kr.toNat / 16 = kind ∧ kr.toNat % 16 = rule) ∧
          (dk.toNat / 16 = places ∧ dk.toNat % 16 = expo) ∧
          (pf.toNat / 16 = priority ∧ pf.toNat / 4 % 4 = spare ∧ pf.getLsbD 1 = half ∧ pf.getLsbD 0 = group) ∧
          (fgOf colours = fg ∧ bgOf colours = bg) ∧ attrs' = attrs ∧ rest' = rest := by
      simp only [Option.some.injEq, Prod.mk.injEq, BindOp.mk.injEq]
      tauto
    rw [read, be16_toNat_eq_iff, halves_eq_iff, halves_eq_iff, priorityByte_eq_iff, colours_eq_iff]
    simp only [toNat_eq_iff, LayoutOp.Coded, LayoutOp.bytes, bytes16, List.cons_append, List.nil_append,
      List.cons.injEq, true_and]
    tauto
  next other =>
    refine ⟨nofun, ?_⟩
    rintro ⟨-, h⟩
    simp only [LayoutOp.bytes, bytes16, List.cons_append, List.nil_append, List.cons.injEq, true_and] at h
    exact (other _ _ _ _ _ _ _ _ _ _ _ _ _ _ h).elim

theorem parseOps_bytes {op : LayoutOp} (h : op.Coded) (n : Nat) (rest : List Byte) :
    parseOps (n + 1) (op.bytes ++ rest) = (parseOps n rest).map (fun ops => op :: ops) := by
  cases op with
  | bind op =>
    obtain ⟨payload, e⟩ : ∃ payload, (LayoutOp.bind op).bytes ++ rest = 1 :: payload := ⟨_, rfl⟩
    have read := (parseBind_eq_some_iff payload op rest).2 ⟨h, e.symm⟩
    simp [e, parseOps, read]
  | unbind n' =>
    have h : n' < 256 := h
    simp [LayoutOp.bytes, parseOps, byteOf_toNat h]
  | level n' prio =>
    obtain ⟨h, h'⟩ : n' < 256 ∧ prio < 256 := h
    simp [LayoutOp.bytes, parseOps, byteOf_toNat h, byteOf_toNat h']

/-- The first operation of a readable list, and the bytes behind it. -/
theorem parseOps_succ {n : Nat} {payload : List Byte} {ops : List LayoutOp} (h : parseOps (n + 1) payload = some ops) :
    ∃ op rest more, op.Coded ∧ payload = op.bytes ++ rest ∧ ops = op :: more ∧ parseOps n rest = some more := by
  obtain _ | ⟨code, rest⟩ := payload
  · cases h
  unfold parseOps at h
  split at h
  next hc =>
    split at h
    next op rest' hb =>
      obtain ⟨more, hmore, rfl⟩ := Option.map_eq_some_iff.1 h
      obtain ⟨coded, e⟩ := (parseBind_eq_some_iff _ _ _).1 hb
      exact ⟨_, _, more, coded, hc ▸ e, rfl, hmore⟩
    next => cases h
  next =>
    split at h
    next hc =>
      split at h
      next slot rest' =>
        obtain ⟨more, hmore, rfl⟩ := Option.map_eq_some_iff.1 h
        obtain ⟨hs, e⟩ := (toNat_eq_iff slot _).1 rfl
        exact ⟨.unbind slot.toNat, rest', more, hs, by rw [LayoutOp.bytes, ← e, hc]; rfl, rfl, hmore⟩
      next => cases h
    next =>
      split at h
      next hc =>
        split at h
        next slot prio rest' =>
          obtain ⟨more, hmore, rfl⟩ := Option.map_eq_some_iff.1 h
          obtain ⟨hs, e⟩ := (toNat_eq_iff slot _).1 rfl
          obtain ⟨hp, e'⟩ := (toNat_eq_iff prio _).1 rfl
          exact ⟨.level slot.toNat prio.toNat, rest', more, ⟨hs, hp⟩, by rw [LayoutOp.bytes, ← e, ← e', hc]; rfl, rfl,
            hmore⟩
        next => cases h
      next => cases h

theorem parseOps_eq_some_iff (n : Nat) (payload : List Byte) (ops : List LayoutOp) :
    parseOps n payload = some ops ↔
      ops.length = n ∧ (∀ op ∈ ops, op.Coded) ∧ payload = ops.flatMap LayoutOp.bytes := by
  constructor
  · intro h
    induction n generalizing payload ops with
    | zero =>
      cases payload with
      | nil => cases h; simp
      | cons => cases h
    | succ n ih =>
      obtain ⟨op, rest, more, coded, rfl, rfl, hmore⟩ := parseOps_succ h
      obtain ⟨rfl, all, rfl⟩ := ih rest more hmore
      exact ⟨rfl, List.forall_mem_cons.2 ⟨coded, all⟩, rfl⟩
  · rintro ⟨rfl, all, rfl⟩
    induction ops with
    | nil => rfl
    | cons op ops ih =>
      obtain ⟨coded, all⟩ := List.forall_mem_cons.1 all
      rw [List.flatMap_cons, List.length_cons, parseOps_bytes coded, ih all]
      rfl

theorem parseLayout_eq_some_iff (payload : List Byte) (ops : List LayoutOp) : parseLayout payload = some ops ↔
    1 ≤ ops.length ∧ ops.length ≤ 4 ∧ (∀ op ∈ ops, op.Coded) ∧
      payload = byteOf ops.length :: ops.flatMap LayoutOp.bytes := by
  cases payload with
  | nil => simp [parseLayout]
  | cons count rest =>
    rw [parseLayout, Option.ite_none_right_eq_some, parseOps_eq_some_iff, List.cons.injEq]
    constructor
    · rintro ⟨⟨hc, hc'⟩, hlen, coded, rfl⟩
      rw [hlen]
      exact ⟨hc, hc', coded, ((toNat_eq_iff _ _).1 rfl).2, rfl⟩
    · rintro ⟨hc, hc', coded, rfl, rfl⟩
      have count : (byteOf ops.length).toNat = ops.length := byteOf_toNat (by omega)
      rw [count]
      exact ⟨⟨hc, hc'⟩, rfl, coded, rfl⟩

end Sys2Proof.Machine
end

section
/-!
PROOFS. What the rows of the dispatcher do with a frame that reaches step 4: QUOTE, PRESENCE and PAINT frames, LAYOUT
and OVERLAY frames, and queries (R29, R30, R41, R105, R114, R143).
-/
namespace Sys2Proof.Machine

variable {s u : State} {f : RxFrame}

/-! ## A frame at step 4 -/

theorem State.reaches.idle (h : s.reaches f u) : s.hand = .idle := by
  obtain ⟨_, ⟨_, idle, _⟩, _⟩ := h
  exact idle

/-- The row that takes a frame which reaches step 4 hands it to its handler. -/
theorem State.reaches.run (h : s.reaches f u) {takes : RxFrame → Bool} (ht : takes f = true)
    (handler : RxFrame → State → State) : goOn (s.dispatch takes handler) = .next (handler f u) :=
  congrArg Host.Outcome.next (State.dispatch_reaches h takes ht handler)

/-- An operation code of a kind that a payload names is taken by that code's row. -/
theorem takesOp_of_code {kind code : Nat} {codes : List Nat} {named : Option Byte} (hk : f.kind = kind)
    (hn : named = some (byteOf code)) (hc : code < 256) : takesOp kind code codes named f = true := by
  simp [takesOp, hk, hn, byteOf_toNat hc]

/-! ## QUOTE, PRESENCE and PAINT frames -/

theorem parsePaint_head {payload : List Byte} {top : Bool} {run : Run} (h : parsePaint payload = some (top, run)) :
    payload.head? = some (byteOf (if top then 1 else 0)) := by
  obtain ⟨-, -, -, -, rfl⟩ := (parsePaint_eq_some_iff _ _ _).1 h
  cases top <;> rfl

/-- A PAINT frame's run is presented, and the dispatcher waits with the frame (R105). -/
theorem takePaintFrame_readable {top : Bool} {run : Run} (h : parsePaint f.payload = some (top, run)) (u : State) :
    takePaintFrame f u = { u with
      text := some (if top then .top run else .base run), hand := .paint f
      port := { u.port with holder := some (u.port.holder.getD .text) } } := by
  unfold takePaintFrame
  rw [h]
  exact State.present_textWriter

theorem takePaintFrame_unusable (h : parsePaint f.payload = none) (u : State) : takePaintFrame f u = u.bump 36 1 := by
  unfold takePaintFrame
  rw [h]
  rfl

/-- Settles O27: step 2 is `State.accepted_accepted` and the address filter `State.addressed_iff`; each row then hands the
frame to its handler. -/
theorem framesHandedOn : Obligations.FramesHandedOn := by
  unfold Obligations.FramesHandedOn
  refine ⟨fun s f rest e v hcan hc hready hs hd he hv ha addressed => ?accepted, fun s u f h => ?rows,
    parseQuote_eq_some_iff, parsePaint_eq_some_iff⟩
  case accepted =>
    have entry : s.heardEntry f = e := State.heardEntry_eq.trans he.symm
    have verdict : s.verdict f = v := by rw [hv, ← entry]; rfl
    have reached := State.intake_accepted (s := { s with frameQueue := rest }) hs hd (by rw [← ha, ← verdict]; rfl)
    rw [show State.addressed { s with frameQueue := rest } f = true from (State.addressed_iff s f).2 addressed] at reached
    exact ⟨_, ⟨rest, hready, reached⟩, verdict ▸ State.accepted_accepted hcan.slots hc rest⟩
  case rows =>
    refine ⟨fun hk hp => ?_, fun hk hp => ?_, fun hk => ?_, fun hk hp => ?_, fun instrument items hk hp => ?_,
      fun run hk hp => ?_, fun run hk hp => ?_, ?_⟩
    · exact (h.run (decide_eq_true hk) takePresence).trans (congrArg Host.Outcome.next (if_pos hp))
    · exact (h.run (decide_eq_true hk) takePresence).trans (congrArg Host.Outcome.next (if_neg hp))
    · refine h.run ?_ (fun _ s1 => s1.countUnusable)
      have reply : kindReply = 9 := rfl
      rw [takesUnusable, Bool.or_eq_true, decide_eq_true_eq, decide_eq_true_eq]
      omega
    · refine (h.run (decide_eq_true hk) State.takeQuote).trans (congrArg Host.Outcome.next ?_)
      rw [State.takeQuote, hp]
      rfl
    · refine (h.run (decide_eq_true hk) State.takeQuote).trans (congrArg Host.Outcome.next ?_)
      rw [State.takeQuote, hp]
      rfl
    · exact (h.run (takes := takesPaint 0) (takesOp_of_code hk (parsePaint_head hp) (by decide)) takePaintFrame).trans
        (congrArg Host.Outcome.next (takePaintFrame_readable hp u))
    · exact (h.run (takes := takesPaint 1) (takesOp_of_code hk (parsePaint_head hp) (by decide)) takePaintFrame).trans
        (congrArg Host.Outcome.next (takePaintFrame_readable hp u))
    · rintro c takes (rfl | rfl) hr ht hp <;> cases hr <;>
        exact (h.run ht takePaintFrame).trans (congrArg Host.Outcome.next (takePaintFrame_unusable hp u))

/-! ## LAYOUT frames -/

theorem State.present_with_hand (s : State) (w : Writer) (h : Hand) :
    ({ s with hand := h } : State).present w = { s.present w with hand := h } := by
  unfold State.present
  dsimp only
  split
  · exact s.grant_with_hand w h
  · rfl

/-- The paint unit does not read the dispatcher's hand. -/
theorem State.paintTake_with_hand (s : State) (h : Hand) :
    ({ s with hand := h } : State).paintTake = { s.paintTake with hand := h } := by
  unfold State.paintTake
  change (if s.isRunning ∧ s.paint = none then match s.restyleChoice with
    | some n => State.takeRestyle { s with hand := h } n
    | none => match s.paintChoice with
      | some (n, p) => State.takePaint { s with hand := h } n p
      | none => { s with hand := h } else { s with hand := h }) = _
  by_cases ready : s.isRunning ∧ s.paint = none
  · rw [if_pos ready, if_pos ready]
    cases s.restyleChoice with
    | some n =>
      exact State.present_with_hand { s.setSlot n { s.slot n with restyle := false } with
        paint := some (.restyle n (s.slot n).generation) } .paint h
    | none =>
      cases s.paintChoice with
      | some e =>
        exact State.present_with_hand { s.setSlot e.1 { s.slot e.1 with pending := none } with
          paint := some (.paint e.1 (s.slot e.1).generation e.2.value e.2.source e.2.stamp) } .paint h
      | none => rfl
  · rw [if_neg ready, if_neg ready]

/-- No LAYOUT operation reads the dispatcher's hand. -/
theorem State.layoutOp_with_hand (s : State) (h : Hand) (op : LayoutOp) :
    ({ s with hand := h } : State).layoutOp op =
      ({ (s.layoutOp op).1 with hand := h }, (s.layoutOp op).2) := by
  cases op with
  | bind op =>
    by_cases ht : s.bindTest op = .done
    · obtain ⟨kind, rule, hr⟩ : ∃ kind rule, bindRange op = some (kind, rule) := by
        unfold State.bindTest at ht
        split at ht
        · cases ht
        · exact ⟨_, _, ‹_›⟩
      rw [State.layoutOp_bind_done ht hr, State.layoutOp_bind_done (s := { s with hand := h }) ht hr]
      unfold State.carryBind
      rw [State.present_textWriter, State.present_textWriter]
      rfl
    · rw [State.layoutOp_bind_refused ht, State.layoutOp_bind_refused (s := { s with hand := h }) ht]
      rfl
  | unbind n =>
    unfold State.layoutOp
    dsimp only
    change (if (s.slot n).bound then _ else _) = _
    split <;> rfl
  | level n prio =>
    unfold State.layoutOp
    dsimp only
    split
    · rfl
    · change (if (s.slot n).bound then _ else _) = _
      split
      · refine Prod.ext ?_ rfl
        exact State.paintTake_with_hand (s.setSlot n { s.slot n with priority := prio }) h
      · rfl

/-- The dispatcher takes an operation whatever it held before. -/
theorem State.layoutTake_with_hand (s : State) (h : Hand) (job : LayoutJob) :
    ({ s with hand := h } : State).layoutTake job = s.layoutTake job := by
  have advance : ∀ (v : State) (job : LayoutJob), ({ v with hand := h } : State).layoutAdvance job = v.layoutAdvance job := by
    intro v job
    unfold State.layoutAdvance
    split <;> rfl
  unfold State.layoutTake
  split
  · exact advance s job
  · rw [State.layoutOp_with_hand]
    dsimp only
    split
    · rfl
    · exact advance _ _

theorem State.layoutRow_idle (h : s.hand = .idle) (code : Nat) :
    s.layoutRow code = s.dispatch (takesLayout code) takeLayout := by
  simp [State.layoutRow, h]

theorem LayoutOp.bytes_head (op : LayoutOp) : op.bytes.head? = some (byteOf op.code) := by
  cases op <;> rfl

theorem parseLayout_code {payload : List Byte} {op : LayoutOp} {ops : List LayoutOp}
    (h : parseLayout payload = some (op :: ops)) : (payload.drop 1).head? = some (byteOf op.code) := by
  obtain ⟨-, -, -, rfl⟩ := (parseLayout_eq_some_iff _ _).1 h
  rw [List.drop_one, List.tail_cons, List.flatMap_cons, List.head?_append, op.bytes_head]
  rfl

theorem exec_layout (h : s.reaches f u) (code : Nat) (ht : takesLayout code f = true) :
    goOn (s.layoutRow code) = .next (takeLayout f u) := by
  rw [State.layoutRow_idle h.idle]
  exact h.run ht takeLayout

theorem layoutCode_done {results : List OpResult} (h : ∀ r ∈ results, r.code = .done) : layoutCode results = .done := by
  have none : results.find? (fun r => decide (r.code ≠ .done)) = none := by
    rw [List.find?_eq_none]
    intro r hr
    simp [h r hr]
  rw [layoutCode, none]

theorem layoutCode_refused {before after : List OpResult} {r : OpResult} (h : ∀ x ∈ before, x.code = .done)
    (hr : r.code ≠ .done) : layoutCode (before ++ r :: after) = r.code := by
  have none : before.find? (fun r => decide (r.code ≠ .done)) = none := by
    rw [List.find?_eq_none]
    intro x hx
    simp [h x hx]
  rw [layoutCode, List.find?_append, none, List.find?_cons_of_pos (by simpa using hr)]
  rfl

/-- Settles O29: the row of the first operation takes the frame (`parseLayout_code`), each further row its operation
(`exec_row_inHand`), and the REPLY carries the first refusal. -/
theorem layoutFrameAnswered : Obligations.LayoutFrameAnswered := by
  unfold Obligations.LayoutFrameAnswered
  refine ⟨fun s u f op ops h hk hp c hc => ?first, fun s u f c takes h hc hr ht hp => ?unusable,
    parseLayout_eq_some_iff, fun s job op ops hm hr c hc => ?further, fun s job hr hdone => ?done,
    fun s job before after r hr hres hbefore hcode => ?refused⟩
  case first =>
    have takes : takesLayout op.code f = true :=
      takesOp_of_code hk (parseLayout_code hp) (by cases op <;> exact Nat.lt_of_sub_eq_succ rfl)
    have run := exec_layout h op.code takes
    rw [takeLayout, hp] at run
    cases op <;> subst hc <;> exact run
  case unusable =>
    have run : ∀ code, takesLayout code f = true → goOn (s.layoutRow code) = .next (u.bump 36 1) := fun code ht => by
      rw [exec_layout h code ht, takeLayout, hp]
      rfl
    rcases hc with rfl | rfl | rfl <;> cases hr <;> exact run _ ht
  case further =>
    have run : exec op.row { s with hand := .layout job } = .next (s.layoutTake job) :=
      (exec_row_inHand (s := { s with hand := .layout job }) hm rfl hr).trans
        (congrArg Host.Outcome.next (s.layoutTake_with_hand _ job))
    cases op <;> subst hc <;> exact run
  case done =>
    rw [State.layoutAdvance, hr]
    dsimp only
    rw [layoutCode_done hdone]
    rfl
  case refused =>
    rw [State.layoutAdvance, hr]
    dsimp only
    rw [show layoutCode job.results = r.code from hres ▸ layoutCode_refused hbefore hcode]
    rfl

/-! ## OVERLAY frames -/

theorem State.overlayRow_idle (h : s.hand = .idle) (code : Nat) :
    s.overlayRow code = s.dispatch (takesOverlay code) handOverlay := by
  simp [State.overlayRow, h]

theorem exec_overlayRow (h : s.judges f u) (hk : f.kind = kindOverlay) (hr : u.overlay.request = none) {op : OverlayOp}
    (hp : parseOverlay f.payload = some op) :
    goOn (s.overlayRow op.code) = .next (u.judgeOverlay op f.sender f.seq) := by
  have row := State.overlayRow_judges h hr (takesOverlay_of_parseOverlay hk hp)
  rw [State.takeOverlay, hp] at row
  exact congrArg Host.Outcome.next row

/-- Settles O36: the rows judge an OVERLAY frame (`State.overlayRow_judges`), or hand it to the dispatcher's hand while a
request is in hand. -/
theorem closeTested : Obligations.CloseTested := by
  unfold Obligations.CloseTested
  refine ⟨fun s u f h hk hr => ⟨fun hp => ⟨fun hl => ?_, fun hl => ?_⟩, fun hp => ⟨fun hl => ?_, fun hl => ?_⟩, ?_⟩,
    fun s u f c takes h hr hc hrow ht => ?waits, parseOverlay_eq_some_iff⟩
  · refine (exec_overlayRow h hk hr hp).trans (congrArg Host.Outcome.next ?_)
    simp [State.judgeOverlay, State.overlayReply, State.overlayData, hl, byteOf]
  · refine (exec_overlayRow h hk hr hp).trans (congrArg Host.Outcome.next ?_)
    refine (if_neg fun e => hl (List.eq_nil_of_length_eq_zero e)).trans ?_
    exact u.presentOverlay_eq (req := .close) nofun f.sender f.seq
  · refine (exec_overlayRow h hk hr hp).trans (congrArg Host.Outcome.next ?_)
    simp [State.judgeOverlay, State.overlayReply, State.overlayData, hl, byteOf]
  · refine (exec_overlayRow h hk hr hp).trans (congrArg Host.Outcome.next ?_)
    refine (if_neg fun e => hl (List.eq_nil_of_length_eq_zero e)).trans ?_
    exact u.presentOverlay_eq (req := .closeAll) nofun f.sender f.seq
  · intro c takes hc hrow ht hp
    have run : ∀ code, takesOverlay code f = true → goOn (s.overlayRow code) = .next (u.bump 36 1) := fun code ht => by
      rw [State.overlayRow_judges h hr ht, State.takeOverlay, hp]
      rfl
    rcases hc with rfl | rfl | rfl <;> cases hrow <;> exact run _ ht
  case waits =>
    have run : ∀ code, takesOverlay code f = true →
        goOn (s.overlayRow code) = .next { u with hand := .overlayWait f } := fun code ht => by
      rw [State.overlayRow_idle h.idle]
      refine (h.run ht handOverlay).trans (congrArg Host.Outcome.next ?_)
      exact if_pos (Option.isSome_iff_ne_none.2 hr)
    rcases hc with rfl | rfl | rfl <;> cases hrow <;> exact run _ ht

/-! ## Queries -/

theorem takesQuery_of_payload {code : Nat} {b : Byte} {rest : List Byte} (hk : f.kind = kindQuery)
    (hp : f.payload = b :: rest) (hb : b.toNat = code) : takesQuery code f = true := by
  simp [takesQuery, hk, hp, hb]

theorem takesQuery_empty (hk : f.kind = kindQuery) (hp : f.payload = []) (code : Nat) : takesQuery code f = true := by
  simp [takesQuery, hk, hp]

/-- A query's handler answers it from the state as it stands (R143, R146 to R150). -/
theorem takeCounters_page {page : Byte} (hp : f.payload = [3, page]) (u : State) : takeCounters f u =
    if 3 < page.toNat then u.answerQuery f .range [] else u.answerQuery f .done (page ::
      (List.range 12).flatMap (fun j => bytes32 (BitVec.ofNat 32 (u.snapCounter (12 * page.toNat + j))))) := by
  have own : byteOf page.toNat = page := (((toNat_eq_iff page _).1 rfl).2).symm
  simp only [takeCounters, hp, State.counterPage, own]

/-- A SLOT query of a slot without a shown value draws one free value (R147, log 5). -/
theorem takeSlot_reports {n : Byte} (hp : f.payload = [4, n]) (u : State) : ∃ last count,
    takeSlot f u = ({ u with freeCount := count } : State).answerQuery f .done (u.slotReport n.toNat last) ∧
      ((u.slot n.toNat).shown ≠ none → count = u.freeCount) := by
  refine ⟨Config.freeLastSource u.freeCount,
    if (u.slot n.toNat).shown = none then u.freeCount + 1 else u.freeCount, ?_, fun h => if_neg h⟩
  simp only [takeSlot, hp]
  split <;> rfl

/-- A query without its bytes, or with more of them, is unusable (R143). -/
theorem takeQuery_unusable (u : State) {code extra : Nat}
    (h : f.payload = [] ∨ ∃ rest, f.payload = BitVec.ofNat 8 code :: rest ∧ rest.length ≠ extra) :
    (extra = 0 → takeStatus f u = u.bump 36 1 ∧ takeCapture f u = u.bump 36 1 ∧
      ∀ running, takeRestart running f u = u.bump 36 1) ∧
    (extra = 1 → takeCounters f u = u.bump 36 1 ∧ takeSlot f u = u.bump 36 1) := by
  constructor
  · rintro rfl
    have short : f.payload.length ≠ 1 := by
      rcases h with h | ⟨rest, h, hr⟩
      · simp [h]
      · simpa [h] using hr
    exact ⟨if_neg short, if_neg short, fun _ => if_neg short⟩
  · rintro rfl
    have short : ∀ a b, f.payload ≠ [a, b] := by
      rintro a b e
      rcases h with h | ⟨rest, h, hr⟩
      · simp [e] at h
      · rw [e, List.cons.injEq] at h
        exact hr (h.2 ▸ rfl)
    unfold takeCounters takeSlot
    constructor
    · split
      · exact absurd ‹_› (short _ _)
      · rfl
    · split
      · exact absurd ‹_› (short _ _)
      · rfl

/-- Settles O55: each query is taken by its row and answered by its handler. -/
theorem queriesAnswered : Obligations.QueriesAnswered := by
  unfold Obligations.QueriesAnswered
  rintro s u f reply h hk rfl
  refine ⟨fun hp => ?status, fun page hp => ⟨fun low => ?page, fun high => ?range⟩, fun n hp => ?slot, fun hp => ?capture,
    fun code rest hp hc => ?unknown, fun hp => ?empty, fun c code extra hm hp => ?unusable⟩
  case status =>
    refine (h.run (takesQuery_of_payload hk hp rfl) takeStatus).trans (congrArg Host.Outcome.next ?_)
    exact if_pos (by rw [hp]; rfl)
  case page =>
    refine (h.run (takesQuery_of_payload hk hp rfl) takeCounters).trans (congrArg Host.Outcome.next ?_)
    rw [takeCounters_page hp, if_neg (Nat.not_lt.2 low)]
    rfl
  case range =>
    refine (h.run (takesQuery_of_payload hk hp rfl) takeCounters).trans (congrArg Host.Outcome.next ?_)
    rw [takeCounters_page hp, if_pos high]
    rfl
  case slot =>
    obtain ⟨last, count, e, hcount⟩ := takeSlot_reports hp u
    exact ⟨last, count, (h.run (takesQuery_of_payload hk hp rfl) takeSlot).trans (congrArg Host.Outcome.next e), hcount⟩
  case capture =>
    refine ⟨u.captureBanks, ?_, rfl, fun n => ⟨rfl, rfl⟩⟩
    refine (h.run (takesQuery_of_payload hk hp rfl) takeCapture).trans (congrArg Host.Outcome.next ?_)
    exact if_pos (by rw [hp]; rfl)
  case unknown =>
    have takes : takesBadRequest f = true := by
      simp only [takesBadRequest, hk, hp, List.head?_cons, decide_true, Bool.true_and, decide_eq_true_eq]
      simp only [List.mem_cons, List.not_mem_nil, or_false]
      omega
    refine (h.run takes takeBadRequest).trans (congrArg Host.Outcome.next ?_)
    exact if_neg (by rw [hp]; nofun)
  case empty =>
    have takes : takesBadRequest f = true := by simp [takesBadRequest, hk, hp]
    exact (h.run takes takeBadRequest).trans (congrArg Host.Outcome.next (if_pos hp))
  case unusable =>
    have takes : code < 256 → takesQuery code f = true := fun hc => by
      rcases hp with hp | ⟨rest, hp, -⟩
      · exact takesQuery_empty hk hp code
      · exact takesQuery_of_payload hk hp (byteOf_toNat hc)
    obtain ⟨zero, one⟩ := takeQuery_unusable u hp
    simp only [List.mem_cons, List.not_mem_nil, or_false, Prod.mk.injEq] at hm
    rcases hm with ⟨rfl, rfl, rfl⟩ | ⟨rfl, rfl, rfl⟩ | ⟨rfl, rfl, rfl⟩ | ⟨rfl, rfl, rfl⟩ | ⟨rfl, rfl, rfl⟩ | ⟨rfl, rfl, rfl⟩
    · exact (h.run (takes (by decide)) takeStatus).trans (congrArg Host.Outcome.next (zero rfl).1)
    · exact (h.run (takes (by decide)) takeCapture).trans (congrArg Host.Outcome.next (zero rfl).2.1)
    · exact (h.run (takes (by decide)) takeCounters).trans (congrArg Host.Outcome.next (one rfl).1)
    · exact (h.run (takes (by decide)) takeSlot).trans (congrArg Host.Outcome.next (one rfl).2)
    · exact (h.run (takes (by decide)) (takeRestart true)).trans (congrArg Host.Outcome.next ((zero rfl).2.2 true))
    · exact (h.run (takes (by decide)) (takeRestart false)).trans (congrArg Host.Outcome.next ((zero rfl).2.2 false))

end Sys2Proof.Machine
end

section
/-!
PROOFS. The paint unit's choice of work (R78 to R80, R85), highlight moves (R93), and silence events (R33, R53).
-/
namespace Sys2Proof.Machine

variable {s t u : State}

/-! ## The choice of a paint (R79) -/

/-- A better choice so far is one of the slots compared. -/
theorem State.foldl_better_mem (ns : List Nat) (best : Option (Nat × Pending)) :
    ns.foldl s.better best = best ∨ ∃ m ∈ ns, ∃ q, s.offersPaint m = some q ∧ ns.foldl s.better best = some (m, q) := by
  induction ns generalizing best with
  | nil => exact .inl rfl
  | cons n ns ih =>
    rw [List.foldl_cons]
    rcases ih (s.better best n) with h | ⟨m, hm, q, hq, h⟩
    · rw [h]
      unfold State.better
      split
      · exact .inl rfl
      · exact .inr ⟨n, by simp, _, ‹_›, rfl⟩
      · split
        · exact .inr ⟨n, by simp, _, ‹_›, rfl⟩
        · exact .inl rfl
    · exact .inr ⟨m, List.mem_cons_of_mem _ hm, q, hq, h⟩

/-- A choice that no later slot goes before stays. -/
theorem State.foldl_better_keep {n : Nat} {p : Pending} {ns : List Nat}
    (h : ∀ m ∈ ns, ∀ q, s.offersPaint m = some q → s.goesBefore m q n p = false) :
    ns.foldl s.better (some (n, p)) = some (n, p) := by
  induction ns with
  | nil => rfl
  | cons m ns ih =>
    have stays : s.better (some (n, p)) m = some (n, p) := by
      unfold State.better
      cases hq : s.offersPaint m with
      | none => rfl
      | some q => simp [h m (by simp) q hq]
    rw [List.foldl_cons, stays]
    exact ih fun m hm => h m (List.mem_cons_of_mem _ hm)

/-- The pending value of slot `n` goes before every other that is offered (R79): by priority, by arrival stamp, and by
slot number. -/
def State.first (s : State) (n : Nat) (p : Pending) : Prop :=
  ∀ m q, m < 256 → s.offersPaint m = some q → m ≠ n → (s.slot m).priority < (s.slot n).priority ∨
    (s.slot m).priority = (s.slot n).priority ∧ (p.stamp.toNat < q.stamp.toNat ∨ p.stamp = q.stamp ∧ n < m)

theorem State.paintChoice_first {n : Nat} {p : Pending} (hn : n < 256) (hp : s.offersPaint n = some p)
    (first : s.first n p) : s.paintChoice = some (n, p) := by
  obtain ⟨before, after, split⟩ := List.append_of_mem (List.mem_range.2 hn)
  have sorted := List.pairwise_lt_range (n := 256)
  have all : ∀ m, m ∈ before ++ n :: after → m < 256 := fun m hm => List.mem_range.1 (split ▸ hm)
  rw [split, List.pairwise_append, List.pairwise_cons] at sorted
  obtain ⟨-, ⟨hafter, -⟩, hbefore⟩ := sorted
  have later : ∀ m ∈ after, ∀ q, s.offersPaint m = some q → s.goesBefore m q n p = false := by
    intro m hm q hq
    have := first m q (all m (by simp [hm])) hq (hafter m hm).ne'
    simp only [State.goesBefore, Bool.or_eq_false_iff, Bool.and_eq_false_iff, decide_eq_false_iff_not,
      BitVec.lt_def, ← BitVec.toNat_inj] at this ⊢
    omega
  have taken : s.better (before.foldl s.better none) n = some (n, p) := by
    rcases s.foldl_better_mem before none with h | ⟨m, hm, q, hq, h⟩
    · simp [h, State.better, hp]
    · have lower := hbefore m hm n (by simp)
      have goes : s.goesBefore n p m q = true := by
        have := first m q (all m (by simp [hm])) hq lower.ne
        simp only [State.goesBefore, Bool.or_eq_true, Bool.and_eq_true, decide_eq_true_eq, BitVec.lt_def,
          ← BitVec.toNat_inj] at this ⊢
        omega
      simp [h, State.better, hp, goes]
  rw [State.paintChoice_eq, split, List.foldl_append, List.foldl_cons, taken]
  exact State.foldl_better_keep later

theorem State.paintTake_restyle {n : Nat} (hm : s.control.mode = .running) (hp : s.paint = none)
    (h : s.restyleChoice = some n) : s.paintTake = s.takeRestyle n := by
  unfold State.paintTake
  rw [if_pos ⟨s.isRunning_iff.2 hm, hp⟩, h]

theorem State.paintTake_chosen (hm : s.control.mode = .running) (hp : s.paint = none) (h : s.restyleChoice = none) :
    s.paintTake = match s.paintChoice with
      | some (n, p) => s.takePaint n p
      | none => s := by
  unfold State.paintTake
  rw [if_pos ⟨s.isRunning_iff.2 hm, hp⟩, h] <;> rfl

/-- The rows that end no unit are the others of the table. -/
theorem endsUnit_eq_false {c : Instr} (h : c ∉ [.bindFill, .baseRun, .topRun, .openUnit, .closeUnit, .closeAllUnit,
    .orphanClose, .unwinding, .paintCompletion, .restyleCompletion, .crawlRepaint])
    (hl : ∀ image, c ≠ .loadingComplete image) : endsUnit c = false := by
  cases c with
  | loadingComplete image => exact absurd rfl (hl image)
  | _ => simp_all [endsUnit]

/-- Settles O46: the choice of R79 is `State.paintChoice_first`, requests are those of `State.present`, and no other row
than a unit's own takes a held port on (`State.Course.port_held`). -/
theorem paintUnitChooses : Obligations.PaintUnitChooses := by
  unfold Obligations.PaintUnitChooses
  refine ⟨fun s offered hm hoff => ⟨fun busy => ?busy, fun n hp hn hb hr low => ?restyle, fun unmarked hp => ?paint⟩,
    fun s w => ⟨s.present_free w, s.present_held w⟩, fun s t c h held hc hl => ?port⟩
  case busy => exact if_neg fun h => busy h.2
  case restyle =>
    refine State.paintTake_restyle hm hp ?_
    rw [State.restyleChoice, List.find?_range_eq_some]
    refine ⟨by simp [State.offersRestyle, hb, hr], List.mem_range.2 hn, fun m hlt => ?_⟩
    cases hbm : (s.slot m).bound
    · simp [State.offersRestyle, hbm]
    · simp [State.offersRestyle, low m hlt hbm]
  case paint =>
    have restyle : s.restyleChoice = none := State.restyleChoice_none.2 fun (n : Nat) (hn : n < 256) => by
      cases hb : (s.slot n).bound
      · simp [State.offersRestyle, hb]
      · simp [State.offersRestyle, unmarked n hn hb]
    rw [State.paintTake_chosen hm hp restyle]
    have offers : ∀ n p, offered n p ↔ n < 256 ∧ s.offersPaint n = some p := fun n p => by
      rw [hoff, s.offersPaint_iff]
    refine ⟨fun nothing => ?_, fun n p ho first => ?_⟩
    · have : s.paintChoice = none := State.paintChoice_none.2 fun n hn =>
        Option.eq_none_iff_forall_ne_some.2 fun p hp => nothing n p ((offers n p).2 ⟨hn, hp⟩)
      rw [this]
    · obtain ⟨hn, ho⟩ := (offers n p).1 ho
      rw [State.paintChoice_first hn ho fun m q hm hq hne => first m q ((offers m q).2 ⟨hm, hq⟩) hne]
      rfl
  case port =>
    exact (exec_run (unit := false) c (fun hu => by simp [endsUnit_eq_false hc hl] at hu) h).port_held held

/-! ## Highlight moves (R93) -/

/-- Settles O49: `Highlight.move`, stage by stage. -/
theorem highlightMovesOn : Obligations.HighlightMovesOn := by
  unfold Obligations.HighlightMovesOn
  rintro s n r hn hm rfl
  have row : exec (.highlightMove n) s = .next (s.moveHighlight n) := by
    simp [exec, execHighlightMove, Nat.not_le.2 hn, hm, goOn]
  rw [row]
  constructor
  · intro idle
    have : s.moveDue n = false := by
      rcases idle with h | h <;> simp [State.moveDue, h]
    exact congrArg Host.Outcome.next (if_neg (by simp [this]))
  · intro hs hr
    have due : s.moveDue n = true := by simp [State.moveDue, hs, hr]
    refine ⟨(s.slot n).highlight.move s.control.config.fade, congrArg Host.Outcome.next (if_pos due), ?_, fun h hf => ?_,
      fun h hf => ?_, fun h => ?_, fun h => ?_, fun h => ?_⟩
    · unfold Highlight.move
      (repeat' split) <;> rfl
    all_goals simp [Highlight.move, h]
    · exact ⟨by rw [if_pos hf], by rw [if_pos hf]⟩
    · exact ⟨by rw [if_neg (by omega)], by rw [if_neg (by omega)]⟩

/-! ## Silence events (R33, R53) -/

theorem Slot.onSilence_shows {r : Slot} {p : Nat} {x : Shown} (hb : r.bound = true) (hs : r.shown = some x)
    (hx : x.source = p) : r.onSilence p =
      { r with stale := true, highlight := { r.highlight with stage := .none, remaining := 0 }, restyle := true } :=
  if_pos (by simp [Slot.shows, hb, hs, hx])

theorem Slot.onSilence_other {r : Slot} {p : Nat} (h : r.bound = false ∨ ∀ x, r.shown = some x → x.source ≠ p) :
    r.onSilence p = r := by
  refine if_neg fun hs => ?_
  obtain ⟨hb, x, hx, hp⟩ := Slot.bound_of_shows hs
  rcases h with h | h
  · simp [hb] at h
  · exact h x hx hp

/-- Settles O53: the field table's marks come first, and the paint unit and the overlay unit follow in either order. -/
theorem silenceDelivered : Obligations.SilenceDelivered := by
  unfold Obligations.SilenceDelivered
  intro s p hp hcan hm hdue
  have row : exec (.silenceEvent p) s = .next (s.deliverSilence p) := by
    simp [exec, execSilenceEvent, Nat.not_le.2 hp, goOn]
  have marked : s.deliverSilence p = ((s.setPeer p { s.peer p with silenceDue := false }).mapSlots
      (Slot.onSilence p)).inEitherOrder State.paintTake State.orphanCheck :=
    if_pos ⟨s.isRunning_iff.2 hm, hdue⟩
  have slot (n : Nat) : ((s.setPeer p { s.peer p with silenceDue := false }).mapSlots (Slot.onSilence p)).slot n =
      (s.slot n).onSilence p := storeGet_map _ _ _ _ rfl hcan.slots
  rw [row, marked]
  refine ⟨{ (s.setPeer p { s.peer p with silenceDue := false }).mapSlots (Slot.onSilence p) with
    freeCount := s.freeCount + 1 }, _, rfl, rfl, s.peer_setPeer_same p _, fun q hq => (s.peer_setPeer p q _).trans (if_neg hq),
    fun n v hb hs hv => (slot n).trans (Slot.onSilence_shows hb hs hv),
    fun n h => (slot n).trans (Slot.onSilence_other h), ?_⟩
  rcases State.inEitherOrder_frame ((s.setPeer p { s.peer p with silenceDue := false }).mapSlots (Slot.onSilence p))
    State.paintTake State.orphanCheck with e | e
  · exact .inl (e ▸ State.orphansChecked_orphanCheck (by rw [State.paintTake_control]; exact hm))
  · exact .inr ⟨_, State.orphansChecked_orphanCheck hm, e⟩

end Sys2Proof.Machine
end

section
/-!
PROOFS. The write units of the base layer: a BIND fill (R44), a paint (R81 to R84) and a restyle (R86), with what their
grants decide.
-/
namespace Sys2Proof.Machine

variable {s t u : State}

/-! ## A BIND fill (R44) -/

/-- While RUNNING, the end of a fill's unit passes the port on and takes the frame's next operation. -/
theorem State.textEnded_fill {job : LayoutJob} (hm : s.control.mode = .running) (hh : s.hand = .layoutFill job) :
    s.textEnded = (({ s with text := none } : State).portPassed
      (grantOrder s.overlay.request.isSome s.crawl.request s.paint.isSome false)).layoutTake job := by
  have passed : ({ s with text := none } : State).release = ({ s with text := none } : State).portPassed
      (grantOrder s.overlay.request.isSome s.crawl.request s.paint.isSome false) :=
    State.release_eq_portPassed _ (ne_of_eq_of_ne hm nofun)
  have handed : ({ s with text := none } : State).release.textHanded =
      ({ s with text := none } : State).release.layoutTake job := by
    have hand : ({ s with text := none } : State).release.hand = .layoutFill job := (State.release_hand _).trans hh
    rw [State.textHanded, hand]
  rw [State.textEnded_eq, handed, passed, State.afterUnit_of_ne]
  rw [State.layoutTake_mode, State.portPassed_control]
  exact ne_of_eq_of_ne hm nofun

/-- Settles O32: the fill is a base-layer write (`State.paintsBase_writeBaseAll`), and its end goes on with the frame. -/
theorem bindFillApplied : Obligations.BindFillApplied := by
  unfold Obligations.BindFillApplied
  intro s place base job law hm hp ht hh
  have e : exec .bindFill s = .next ((s.applyFill place base).scanned s).textEnded := by
    simp [exec, execBindFill, goOn, State.endFill, hp, ht]
  obtain ⟨_, _, frame⟩ := s.writeBaseAll_frame (place.cells.map (fun i =>
    (i, { glyph := 32, fg := base.fg, bg := base.bg, attrs := { base.attrs with inverse := false } })))
  have paints := State.paintsBase_writeBaseAll law place.cells
    (fun _ => { glyph := 32, fg := base.fg, bg := base.bg, attrs := { base.attrs with inverse := false } })
  have scans := s.scansOn_scanned (s.applyFill place base)
  change s.applyFill place base = _ at frame
  change s.paintsBase (s.applyFill place base) _ _ at paints
  refine ⟨{ (s.applyFill place base).scanned s with text := none }, _, _, e, by rw [frame]; rfl,
    scans.sameScreen ⟨rfl, rfl, rfl, rfl, rfl, rfl⟩, paints, rfl, ?_⟩
  have ended : ((s.applyFill place base).scanned s).textEnded =
      (({ (s.applyFill place base).scanned s with text := none } : State).portPassed
        (grantOrder s.overlay.request.isSome s.crawl.request s.paint.isSome false)).layoutTake job := by
    rw [State.textEnded_fill (by rw [frame]; exact hm) (by rw [frame]; exact hh), frame]
    rfl
  rw [ended]
  refine ⟨fun hr => ?_, fun _ => rfl⟩
  unfold State.layoutTake
  rw [hr]

/-! ## Colours (R90, R91) -/

theorem Slot.coloured (roles : Roles) (r : Slot) : r.Coloured roles (slotFg roles r) (slotBg roles r) := by
  constructor
  case positive =>
    intro h1 h2 h3 scale raw src h4 h5
    simp [slotFg, h1, h2, h3, h4, shownSign, h5]
  case negative =>
    intro h1 h2 h3 scale raw src h4 h5
    simp [slotFg, h1, h2, h3, h4, shownSign, h5, Int.lt_asymm h5]
  all_goals intros; simp_all [slotFg, slotBg, shownSign]

/-! ## A paint (R81 to R84) -/

theorem fit_length (w : Nat) (candidates : List (List Byte)) : (fit w candidates).1.length = w := by
  unfold fit
  split
  next c h =>
    have fits : c.length ≤ w := by simpa using List.find?_some h
    simp [fits]
  next => simp

theorem formatValue_length (fmt : Format) (w : Nat) (v : Value) : (formatValue fmt w v).glyphs.length = w := by
  cases v with
  | numeric scale raw => exact fit_length w _
  | text glyphs =>
    simp only [formatValue, fitText, List.length_append, List.length_take, List.length_replicate]
    omega

/-- The cell that a paint writes at key `i`. -/
def Slot.painted (roles : Roles) (r : Slot) (glyphs : List Byte) (i : Nat) : Cell :=
  slotCell roles r (frameGlyph (glyphs.getD (i - cellKey r.place.row r.place.col) 0))

theorem paintWrites_eq (roles : Roles) (r : Slot) {glyphs : List Byte} (h : glyphs.length = r.place.width) :
    paintWrites roles r glyphs = r.place.cells.map (fun i => (i, r.painted roles glyphs i)) := by
  refine List.ext_getElem (by simp [paintWrites, Placement.cells, h]) fun x hx _ => ?_
  have hx : x < glyphs.length := by
    simp only [paintWrites, List.length_map, List.length_zip] at hx
    omega
  simp [paintWrites, Placement.cells, Slot.painted, cellKey_add, hx]

/-- What a paint's write unit does (R81, R84). -/
theorem State.applyPaint_slot {r : Slot} (h : s.port.decided = .slot r) (v : Value) {f : Formatted}
    (hf : f = formatValue r.format r.place.width v) : s.applyPaint v =
      (((s.writeBaseAll (r.place.cells.map (fun i => (i, r.painted s.control.config.roles f.glyphs i)))).bump 40 1).bumpIf
        f.overflow 42).bumpIf f.clamp 44 := by
  rw [State.applyPaint, h]
  dsimp only
  rw [← hf, paintWrites_eq _ _ (hf ▸ formatValue_length ..)]

theorem State.applyPaint_abandoned (h : s.port.decided = .abandoned) (v : Value) : s.applyPaint v = s.bump 41 1 := by
  rw [State.applyPaint, h]

/-- While RUNNING, the end of a paint's or restyle's unit passes the port on, and the paint unit takes work. -/
theorem State.paintEnded_running (hm : s.control.mode = .running) (n : Nat) : s.paintEnded n =
    (({ s with paint := none } : State).portPassed
      (grantOrder s.overlay.request.isSome s.crawl.request false s.text.isSome)).paintTake := by
  have passed : ({ s with paint := none } : State).release = ({ s with paint := none } : State).portPassed
      (grantOrder s.overlay.request.isSome s.crawl.request false s.text.isSome) :=
    State.release_eq_portPassed _ (ne_of_eq_of_ne hm nofun)
  have mode : (({ s with paint := none } : State).release).control.mode = .running := by
    rw [State.release_control]
    exact hm
  unfold State.paintEnded
  dsimp only
  rw [if_neg (ne_of_eq_of_ne mode (by decide)), State.afterUnit_of_ne, passed]
  rw [State.paintTake_control]
  exact ne_of_eq_of_ne mode nofun

/-- What a paint's grant does to its slot (R82, R83). -/
theorem State.grant_paintOp {n : Nat} {g : BitVec 8} {v : Value} {src : Nat} {stamp : BitVec 32}
    (h : s.paint = some (.paint n g v src stamp)) : s.grant .paint =
      if s.passesChecks n g then
        { s.setSlot n (paintedSlot (s.slot n) v src (decide ((s.peer src).state = .live)) s.control.config.hold) with
          port := { holder := some .paint, decided := .slot (paintedSlot (s.slot n) v src
            (decide ((s.peer src).state = .live)) s.control.config.hold) } }
      else { s with port := { holder := some .paint, decided := .abandoned } } := by
  unfold State.grant State.grantPaint
  dsimp only
  split
  next e =>
    cases h.symm.trans e
    by_cases checks : s.passesChecks n g = true
    · rw [if_pos checks]
      exact if_pos checks
    · rw [if_neg checks]
      exact if_neg checks
  next e => cases h.symm.trans e
  next e => cases h.symm.trans e

theorem State.grant_restyle {n : Nat} {g : BitVec 8} (h : s.paint = some (.restyle n g)) : s.grant .paint =
    { s with port := { holder := some .paint, decided := if s.passesChecks n g then .slot (s.slot n) else .abandoned } } := by
  unfold State.grant State.grantPaint
  dsimp only
  split
  next e => cases h.symm.trans e
  next e =>
    cases h.symm.trans e
    rfl
  next e => cases h.symm.trans e

theorem State.passesChecks_iff (s : State) (n : Nat) (g : BitVec 8) : s.passesChecks n g = true ↔
    (s.slot n).bound = true ∧ (s.slot n).generation = g := by
  simp [State.passesChecks]

theorem State.passesChecks_fails {n : Nat} {g : BitVec 8} (h : (s.slot n).bound = false ∨ (s.slot n).generation ≠ g) :
    ¬ s.passesChecks n g = true := by
  rw [State.passesChecks_iff]
  rintro ⟨h1, h2⟩
  simp [h1, h2] at h

theorem paintedHighlight_eq (r : Slot) (live change : Bool) (direction : Direction) (hold : Nat) :
    paintedHighlight r (!live) change direction hold =
      if live = false then { r.highlight with stage := .none, remaining := 0 }
      else if r.rule = .tick ∧ change = true ∧ 1 ≤ hold then
        { stage := .flash, remaining := hold, flashUp := decide (direction = .up) }
      else r.highlight := by
  cases live <;> rfl

/-- Settles O47: what a paint's grant decides (`State.grant_paintOp`), and what its unit writes and counts
(`State.applyPaint_slot`, `State.applyPaint_abandoned`). -/
theorem paintCompletes : Obligations.PaintCompletes := by
  unfold Obligations.PaintCompletes
  refine ⟨?granted, ?applied⟩
  case granted =>
    rintro s n g v src stamp r hp rfl
    refine ⟨_, rfl, ?_⟩
    rw [State.grant_paintOp hp]
    by_cases checks : s.passesChecks n g = true
    · obtain ⟨hb, hg⟩ := (s.passesChecks_iff n g).1 checks
      rw [if_pos checks]
      refine ⟨rfl, fun m hm => (s.slot_setSlot n m _).trans (if_neg hm), fun fails => absurd checks (State.passesChecks_fails fails),
        ?_⟩
      rintro - - f move rfl rfl
      have slot : (s.setSlot n (paintedSlot (s.slot n) v src (decide ((s.peer src).state = .live))
          s.control.config.hold)).slot n = _ := (s.slot_setSlot n n _).trans (if_pos rfl)
      refine ⟨congrArg Decision.slot slot.symm, paintedHighlight (s.slot n) (!decide ((s.peer src).state = .live))
        (tickOf (s.slot n).direction (s.slot n).shown v).2 (tickOf (s.slot n).direction (s.slot n).shown v).1
        s.control.config.hold, slot.trans ?_, fun silent => ?_, fun live rule change hold => ?_,
        fun live still => ?_⟩
      · simp only [paintedSlot, decide_not]
      · rw [paintedHighlight_eq, if_pos (by simpa using silent)]
      · rw [paintedHighlight_eq, if_neg (by simp [live]), if_pos ⟨rule, change, hold⟩]
      · rw [paintedHighlight_eq, if_neg (by simp [live]), if_neg]
        rintro ⟨h1, h2, h3⟩
        rcases still with h | h | h
        · exact h h1
        · simp [h2] at h
        · omega
    · rw [if_neg checks]
      refine ⟨rfl, fun _ _ => rfl, fun _ => ⟨rfl, rfl⟩, fun hb hg => absurd ((s.passesChecks_iff n g).2 ⟨hb, hg⟩) checks⟩
  case applied =>
    intro s n g v src stamp law hc hm hp hpaint
    have e : exec .paintCompletion s = .next (((s.applyPaint v).scanned s).paintEnded n) := by
      simp [exec, execPaintCompletion, goOn, State.endPaint, hp, hpaint]
    obtain ⟨_, _, _, frame⟩ := s.applyPaint_frame v
    have ended : ((s.applyPaint v).scanned s).paintEnded n =
        (({ (s.applyPaint v).scanned s with paint := none } : State).portPassed
          (grantOrder s.overlay.request.isSome s.crawl.request false s.text.isSome)).paintTake := by
      rw [State.paintEnded_running (by rw [frame]; exact hm), frame]
      rfl
    refine ⟨{ (s.applyPaint v).scanned s with paint := none }, e.trans (congrArg Host.Outcome.next ended), ?_,
      (s.scansOn_scanned _).sameScreen ⟨rfl, rfl, rfl, rfl, rfl, rfl⟩, fun hd => ?_, ?_⟩
    · rw [frame]
      rfl
    · rw [State.applyPaint_abandoned hd]
      exact ⟨rfl, rfl, State.risesTo_counted hc rfl 41 1⟩
    · rintro r hd f rfl
      rw [State.applyPaint_slot hd v rfl]
      have paints := State.paintsBase_writeBaseAll law r.place.cells
        (r.painted s.control.config.roles (formatValue r.format r.place.width v).glyphs)
      obtain ⟨_, _, frame⟩ := s.writeBaseAll_frame (r.place.cells.map (fun i => (i, r.painted s.control.config.roles
        (formatValue r.format r.place.width v).glyphs i)))
      generalize s.writeBaseAll _ = w at paints frame ⊢
      constructor
      · have rises : s.risesTo w [] := State.risesTo_congr (State.risesTo_refl hc) (by rw [frame]) fun _ => rfl
        exact State.risesTo_bumpIf (State.risesTo_bumpIf (State.risesTo_bump rises 40 1) _ 42) _ 44
      · refine ⟨_, _, r.coloured s.control.config.roles,
          r.painted s.control.config.roles (formatValue r.format r.place.width v).glyphs, ?_, ?_⟩
        · obtain ⟨_, overflow⟩ := (w.bump 40 1).bumpIf_frame (formatValue r.format r.place.width v).overflow 42
          rw [overflow]
          obtain ⟨_, clamp⟩ := State.bumpIf_frame _ (formatValue r.format r.place.width v).clamp 44
          rw [clamp]
          exact paints
        · intro x glyph hx hw
          simp [Slot.painted, cellKey_add, hx, slotCell, Slot.cellAttrs]

/-! ## A restyle (R86) -/

theorem State.applyRestyle_slot {r : Slot} (h : s.port.decided = .slot r) : s.applyRestyle =
    s.writeBaseAll (r.place.cells.map
      (fun i => (i, slotCell s.control.config.roles r (s.baseCell i).glyph))) := by
  rw [State.applyRestyle, h]

theorem State.applyRestyle_abandoned (h : s.port.decided = .abandoned) : s.applyRestyle = s := by
  rw [State.applyRestyle, h]

/-- Settles O48: a restyle's grant reads its slot (`State.grant_restyle`), and its unit recolours the slot's cells. -/
theorem restyleCompletes : Obligations.RestyleCompletes := by
  unfold Obligations.RestyleCompletes
  refine ⟨?granted, ?applied⟩
  case granted =>
    rintro s n g r hp rfl
    rw [State.grant_restyle hp]
    refine ⟨fun hb hg => ?_, fun fails => ?_⟩
    · rw [if_pos ((s.passesChecks_iff n g).2 ⟨hb, hg⟩)]
    · rw [if_neg (State.passesChecks_fails fails)]
  case applied =>
    intro s n g law hm hp hpaint
    have e : exec .restyleCompletion s = .next ((s.applyRestyle.scanned s).paintEnded n) := by
      simp [exec, execRestyleCompletion, goOn, State.endRestyle, hp, hpaint]
    obtain ⟨_, _, frame⟩ := s.applyRestyle_frame
    have ended : (s.applyRestyle.scanned s).paintEnded n =
        (({ s.applyRestyle.scanned s with paint := none } : State).portPassed
          (grantOrder s.overlay.request.isSome s.crawl.request false s.text.isSome)).paintTake := by
      rw [State.paintEnded_running (by rw [frame]; exact hm), frame]
      rfl
    refine ⟨{ s.applyRestyle.scanned s with paint := none }, e.trans (congrArg Host.Outcome.next ended), ?_,
      (s.scansOn_scanned _).sameScreen ⟨rfl, rfl, rfl, rfl, rfl, rfl⟩, fun hd => ?_, fun r hd => ?_⟩
    · rw [frame]
      rfl
    · rw [State.applyRestyle_abandoned hd]
      exact ⟨rfl, rfl⟩
    · rw [State.applyRestyle_slot hd]
      exact ⟨_, _, r.coloured s.control.config.roles, State.paintsBase_writeBaseAll law r.place.cells
        (fun i => slotCell s.control.config.roles r (s.baseCell i).glyph)⟩

end Sys2Proof.Machine
end

section
/-!
PROOFS. The status record and the slot report (R146, R147, 11.3).
-/
namespace Sys2Proof.Machine

variable {s : State}

/-! ## Bytes of flags and codes -/

theorem statusFlags_readsBack : ∀ (a b c : Bool) (code : Fin 16),
    (byteOf (a.toNat + 2 * b.toNat + 4 * c.toNat + 16 * code.val)).getLsbD 0 = a ∧
      (byteOf (a.toNat + 2 * b.toNat + 4 * c.toNat + 16 * code.val)).getLsbD 1 = b ∧
      (byteOf (a.toNat + 2 * b.toNat + 4 * c.toNat + 16 * code.val)).getLsbD 2 = c ∧
      (byteOf (a.toNat + 2 * b.toNat + 4 * c.toNat + 16 * code.val)).toNat / 16 = code.val := by decide

theorem slotFlags_readsBack : ∀ a b c d e : Bool,
    (byteOf (a.toNat + 2 * b.toNat + 4 * c.toNat + 8 * d.toNat + 16 * e.toNat)).getLsbD 0 = a ∧
      (byteOf (a.toNat + 2 * b.toNat + 4 * c.toNat + 8 * d.toNat + 16 * e.toNat)).getLsbD 1 = b ∧
      (byteOf (a.toNat + 2 * b.toNat + 4 * c.toNat + 8 * d.toNat + 16 * e.toNat)).getLsbD 2 = c ∧
      (byteOf (a.toNat + 2 * b.toNat + 4 * c.toNat + 8 * d.toNat + 16 * e.toNat)).getLsbD 3 = d ∧
      (byteOf (a.toNat + 2 * b.toNat + 4 * c.toNat + 8 * d.toNat + 16 * e.toNat)).getLsbD 4 = e := by decide

theorem Cause.code_lt (c : Cause) : c.code < 16 := by cases c <;> decide

theorem Timing.code_lt (c : Timing) : c.code < 256 := by cases c <;> decide

theorem be16_ofNat_readsBack {n : Nat} (h : n < 65536) :
    (be16 ((BitVec.ofNat 16 n).extractLsb' 8 8) ((BitVec.ofNat 16 n).extractLsb' 0 8)).toNat = n :=
  (be16_toNat_eq_iff _ _ n).2 ⟨h, rfl, rfl⟩

/-! ## The status record -/

theorem State.countSlots_le (s : State) (test : Slot → Bool) : s.countSlots test ≤ 256 :=
  (List.length_filter_le _ _).trans (by simp)

theorem State.countPeers_le (s : State) (test : PeerEntry → Bool) : s.countPeers test ≤ 63 :=
  (List.length_filter_le _ _).trans (by simp)

theorem PeerEntry.missingA_eq (e : PeerEntry) :
    e.missingA = decide (e.state = .live ∧ 64 < e.ageA ∧ e.ageB ≤ 64) := by
  simp [PeerEntry.missingA, PeerEntry.isLive, Bool.and_assoc]

theorem PeerEntry.missingB_eq (e : PeerEntry) :
    e.missingB = decide (e.state = .live ∧ 64 < e.ageB ∧ e.ageA ≤ 64) := by
  simp [PeerEntry.missingB, PeerEntry.isLive, Bool.and_assoc]

theorem State.statusRecord_readsBack (hb : s.Bounded) (ho : s.OverlayLaw) (hr : s.group.reference ≤ 63) {r : List Byte}
    (h : r = s.statusRecord) : r.length = 22 ∧
    (byteAt r 0).toNat = s.control.config.station ∧ (byteAt r 1).toNat = s.control.config.group ∧
    ((byteAt r 2).getLsbD 0 = true ↔ s.control.valid = false) ∧
    ((byteAt r 2).getLsbD 1 = true ↔ s.control.clock = .backup) ∧
    ((byteAt r 2).getLsbD 2 = true ↔ s.control.clash = true) ∧
    (byteAt r 2).toNat / 16 = s.control.cause.code ∧
    (byteAt r 3).toNat = s.control.clamped ∧
    (byteAt r 4).toNat = s.group.timing.code ∧ (byteAt r 5).toNat = s.group.reference ∧
    be16 (byteAt r 6) (byteAt r 7) = s.group.phase ∧ be16 (byteAt r 8) (byteAt r 9) = s.crawl.p ∧
    (be16 (byteAt r 10) (byteAt r 11)).toNat = s.group.corrections ∧
    (byteAt r 12).toNat = s.overlay.levels.length ∧
    (be16 (byteAt r 13) (byteAt r 14)).toNat = s.overlay.used ∧
    (be16 (byteAt r 15) (byteAt r 16)).toNat = s.countSlots (fun r => r.bound) ∧
    (be16 (byteAt r 17) (byteAt r 18)).toNat = s.countSlots (fun r => r.pending.isSome) ∧
    (byteAt r 19).toNat = s.countPeers PeerEntry.isLive ∧
    (byteAt r 20).toNat = s.countPeers PeerEntry.missingA ∧
    (byteAt r 21).toNat = s.countPeers PeerEntry.missingB := by
  subst h
  obtain ⟨f0, f1, f2, f3⟩ := statusFlags_readsBack (!s.control.valid) (decide (s.control.clock = .backup))
    s.control.clash ⟨_, s.control.cause.code_lt⟩
  have station := hb.config.station
  have group := hb.config.group
  have clamped := hb.clamped
  have corrections := hb.corrections
  have depth := ho.depth
  have fits := ho.fits
  have live := s.countPeers_le PeerEntry.isLive
  have missingA := s.countPeers_le PeerEntry.missingA
  have missingB := s.countPeers_le PeerEntry.missingB
  refine ⟨rfl, byteOf_toNat (by omega), byteOf_toNat (by omega), ?_, ?_, ?_, f3, byteOf_toNat (by omega),
    byteOf_toNat s.group.timing.code_lt, byteOf_toNat (by omega), be16_bytes16 _, be16_bytes16 _,
    be16_ofNat_readsBack (by omega), byteOf_toNat (by omega), be16_ofNat_readsBack (by omega),
    be16_ofNat_readsBack ((s.countSlots_le _).trans_lt (by decide)),
    be16_ofNat_readsBack ((s.countSlots_le _).trans_lt (by decide)), byteOf_toNat (by omega), byteOf_toNat (by omega),
    byteOf_toNat (by omega)⟩
  · refine (iff_of_eq (congrArg (· = true) f0)).trans ?_
    simp
  · refine (iff_of_eq (congrArg (· = true) f1)).trans ?_
    simp
  · exact iff_of_eq (congrArg (· = true) f2)

/-! ## The slot report -/

/-- The BIND operation that a slot's key, placement, format, rule, priority and base spell (11.3). -/
def Slot.bindOp (r : Slot) (n : Nat) : BindOp :=
  { slot := n, source := r.key.source, instrument := r.key.instrument, field := r.key.field
    row := r.place.row, col := r.place.col, width := r.place.width
    kindCode := r.format.kind.code, ruleCode := r.rule.code
    places := r.format.places, expo := r.format.expo
    priority := r.priority, spare := 0, half := r.format.half, group := r.format.group
    fg := r.base.fg, bg := r.base.bg, attrs := attrsByte r.base.attrs }

theorem Slot.bindOp_bytes (r : Slot) (n : Nat) : (LayoutOp.bind (r.bindOp n)).bytes = 1 :: byteOf n :: r.bindBytes := by
  simp [LayoutOp.bytes, Slot.bindOp, Slot.bindBytes, bytes16, coloursByte, Nat.mul_comm]

theorem Slot.shown_drop (s : State) (n : Nat) (last : Byte) :
    (s.slotReport n last).drop 16 = shownBytes last (s.slot n).shown := rfl

theorem getElem?_drop_byteAt (bs : List Byte) (i k : Nat) : byteAt bs (i + k) = byteAt (bs.drop i) k := by
  simp [byteAt, List.getD_eq_getElem?_getD]

/-- Settles O56: byte by byte, and the bytes of the binding as a BIND (`parseBind_eq_some_iff`). -/
theorem reportsReadBack : Obligations.ReportsReadBack := by
  unfold Obligations.ReportsReadBack
  refine ⟨fun s r hb ho hr h => ?record, ?report⟩
  case record =>
    have missingA : s.countPeers PeerEntry.missingA = _ :=
      congrArg (fun test => s.countPeers test) (funext PeerEntry.missingA_eq)
    have missingB : s.countPeers PeerEntry.missingB = _ :=
      congrArg (fun test => s.countPeers test) (funext PeerEntry.missingB_eq)
    have read := State.statusRecord_readsBack hb ho hr h
    rw [missingA, missingB] at read
    exact read
  case report =>
    rintro s n last r report hn rfl hrep hsource hinstrument hfield hrow hcol hwidth hplaces hexpo hprio
    have shown : report.drop 16 = shownBytes last (s.slot n).shown := hrep ▸ Slot.shown_drop s n last
    obtain ⟨f0, f1, f2, f3, f4⟩ := slotFlags_readsBack (s.slot n).bound (s.slot n).shown.isSome (s.slot n).stale
      (s.slot n).overflow (s.slot n).pending.isSome
    have codes : (byteOf ((s.slot n).direction.code * 16 + (s.slot n).highlight.stage.code)).toNat / 16 =
        (s.slot n).direction.code ∧
        (byteOf ((s.slot n).direction.code * 16 + (s.slot n).highlight.stage.code)).toNat % 16 =
          (s.slot n).highlight.stage.code := by
      cases (s.slot n).direction <;> cases (s.slot n).highlight.stage <;> decide
    have tail : ∀ k, byteAt report (16 + k) = byteAt (shownBytes last (s.slot n).shown) k := fun k => by
      rw [getElem?_drop_byteAt, shown]
    refine ⟨?_, ?_, ?_, ?_, ?_, ?_, ?_, ?_, ?_, ?_, fun h => ?_, fun scale raw src h => ?_, fun glyphs src h => ?_⟩
    case refine_10 =>
      refine ⟨(s.slot n).bindOp n, report.drop 15, (parseBind_eq_some_iff _ _ _).2 ⟨?_, ?_⟩, rfl,
        attrsOfByte_attrsByte _⟩
      · have kind : (s.slot n).format.kind.code < 16 := by cases (s.slot n).format.kind <;> decide
        have rule : (s.slot n).rule.code < 16 := by cases (s.slot n).rule <;> decide
        refine ⟨hn, ?_, ?_, ?_, ?_, ?_, ?_, kind, rule, ?_, ?_, ?_, Nat.zero_lt_succ 3⟩ <;>
          simp only [Slot.bindOp] <;> omega
      · rw [Slot.bindOp_bytes, hrep]
        rfl
    case refine_11 => rw [shown, h, shownBytes]
    case refine_12 =>
      rw [h] at shown tail
      have length : report.length = 23 := by
        have := congrArg List.length shown
        simp only [List.length_drop, shownBytes, bytes32, List.length_append, List.length_cons, List.length_nil] at this
        omega
      exact ⟨length, tail 0, tail 1, tail 2, by
        rw [tail 3, tail 4, tail 5, tail 6]
        exact (be32_eq_iff _ _ _ _ raw).2 ⟨rfl, rfl, rfl, rfl⟩⟩
    case refine_13 => rw [shown, h, shownBytes]
    all_goals subst hrep
    · exact byteOf_toNat hn
    · exact f0
    · exact f1
    · exact f2
    · exact f3
    · exact f4
    · rfl
    · exact codes.1
    · exact codes.2

end Sys2Proof.Machine
end

section
/-!
PROOFS. The reference's stop (R158), a crawl step and a due BEACON (R11, R127, R128, R138), and the repaint of the crawl
row (R141).
-/
namespace Sys2Proof.Machine

variable {s t u : State}

/-! ## The reference stops (R12, R131, R158) -/

/-- The clock state becomes BACKUP and the inhibit begins. -/
def State.backedUp (s : State) : State :=
  ({ s with control := { s.control with clock := .backup } } : State).beginInhibit

theorem State.lanePort_backedUp (s : State) (l : Lane) :
    s.backedUp.lanePort l = (s.lanePort l).inhibit s.isRunning := by
  cases l <;> rfl

theorem State.faultAsserted_iff (s : State) : s.faultAsserted = true ↔ s.control.valid = false ∨
    s.control.config.station = 63 ∨ s.control.clock = .backup ∨ s.control.clash = true := by
  simp [State.faultAsserted, or_assoc]

/-- Settles O60: the inhibit at each port is `Port.inhibit`, and the election is `State.elect_elected` with the own
station no candidate any more. -/
theorem referenceStopInhibits : Obligations.ReferenceStopInhibits := by
  unfold Obligations.ReferenceStopInhibits
  refine ⟨fun s hc => ?stopped, fun s hc => ?stops, State.faultAsserted_iff⟩
  case stopped => simp [exec, execReferenceStop, hc, goOn]
  case stops =>
    have e : exec .referenceStop s = .next (if s.isRunning then s.backedUp.elect else s.backedUp) := by
      simp only [exec, execReferenceStop, hc, if_true]
      rfl
    obtain ⟨timing, reference, frame⟩ : ∃ timing reference, (if s.isRunning then s.backedUp.elect else s.backedUp) =
        { s.backedUp with group := { s.group with timing := timing, reference := reference } } := by
      split
      · exact s.backedUp.elect_frame
      · exact ⟨s.group.timing, s.group.reference, rfl⟩
    have elected : s.control.mode = .running → (if s.isRunning then s.backedUp.elect else s.backedUp).Elected := fun hm => by
      rw [if_pos (s.isRunning_iff.2 hm)]
      exact s.backedUp.elect_elected
    have group : s.control.mode ≠ .running →
        (if s.isRunning then s.backedUp.elect else s.backedUp).group = s.group := fun hm => by
      rw [if_neg (fun h => hm (s.isRunning_iff.1 h))]
      rfl
    generalize (if s.isRunning then s.backedUp.elect else s.backedUp) = t at e frame elected group
    subst frame
    refine ⟨_, e, rfl, by simp [State.inhibited, State.backedUp, State.beginInhibit],
      by simp [State.faultAsserted, State.backedUp, State.beginInhibit], fun lane => ?_, group, fun candidate hm hcand => ?_⟩
    · have port : (s.backedUp.lanePort lane).rx = if (s.lanePort lane).tx.inSend && s.isRunning then
          rxOpened (s.lanePort lane).carrier else (s.lanePort lane).rx := by rw [s.lanePort_backedUp lane]; rfl
      refine ⟨?_, fun hs hm => port.trans (if_pos ?_), fun h => port.trans (if_neg fun both => ?_)⟩
      · cases lane <;> rfl
      · rw [hs, s.isRunning_iff.2 hm]
        rfl
      · rw [Bool.and_eq_true, State.isRunning_iff] at both
        rcases h with h | h
        · simp [h] at both
        · exact h both.2
    · obtain ⟨none, lowest⟩ := elected hm candidate fun q => by
        refine (hcand q).trans (and_congr_right fun _ => ⟨.inl, ?_⟩)
        rintro (h | ⟨-, -, h⟩)
        · exact h
        · cases h
      refine ⟨none, fun q hq least => ⟨(lowest q hq least).1, fun hne => (lowest q hq least).2.trans (if_neg hne)⟩⟩

/-! ## A crawl step (R138, R141) -/

theorem State.needRepaint_off (h : s.crawlEnabled = false) : s.needRepaint = s := if_pos (by simp [h])

/-- A repaint is presented (R141). -/
theorem State.needRepaint_new (h : s.crawlEnabled = true) (hm : s.control.mode = .running) (hr : s.crawl.request = false) :
    s.needRepaint = ({ s with crawl := { s.crawl with request := true } } : State).present .crawl := by
  unfold State.needRepaint
  rw [if_neg (by simp [h, s.isRunning_iff.2 hm]), if_pos (by simp [hr])]

/-- A repaint that waits or is being applied (R141). -/
theorem State.needRepaint_waiting (h : s.crawlEnabled = true) (hm : s.control.mode = .running)
    (hr : s.crawl.request = true) : s.needRepaint =
      if s.port.holder = some .crawl then { s with crawl := { s.crawl with repeatMark := true } } else s := by
  unfold State.needRepaint
  rw [if_neg (by simp [h, s.isRunning_iff.2 hm]), if_neg (by simp [hr])]

/-- A repaint that is not granted at once leaves the port as it is. -/
theorem State.needRepaint_port (h : s.crawlEnabled = false ∨ s.crawl.request = true ∨ s.port.holder ≠ none) :
    s.needRepaint.port = s.port := by
  unfold State.needRepaint
  split
  · rfl
  next hr =>
    split
    next hn =>
      rcases h with h | h | h
      · simp [h] at hr
      · simp [h] at hn
      · rw [State.present_held _ .crawl (by exact h)]
    · split <;> rfl

/-! ## A due BEACON (R11, R128) -/

/-- A frame that a due BEACON replaces in place: an earlier one that waits on both lanes (R11). -/
def TxFrame.replaceable (f : TxFrame) : Prop := f.kind = .beacon ∧ f.sendA = .waiting ∧ f.sendB = .waiting

theorem replaceBeacon_none {payload : List Byte} {frames : List TxFrame} (h : ∀ x ∈ frames, ¬ x.replaceable) :
    replaceBeacon payload frames = none := by
  induction frames with
  | nil => rfl
  | cons f frames ih =>
    rw [List.forall_mem_cons] at h
    exact (if_neg h.1).trans (by rw [ih h.2]; rfl)

theorem replaceBeacon_first {payload : List Byte} {before after : List TxFrame} {f : TxFrame} (hf : f.replaceable)
    (h : ∀ x ∈ before, ¬ x.replaceable) : replaceBeacon payload (before ++ f :: after) =
      some (before ++ { f with payload := payload } :: after) := by
  induction before with
  | nil => exact if_pos hf
  | cons x before ih =>
    rw [List.forall_mem_cons] at h
    exact (if_neg h.1).trans (congrArg (Option.map (x :: ·)) (ih h.2))

/-- Settles O43: a crawl step is `State.stepCrawl` with its repaint, a due BEACON is `State.queueBeacon`. -/
theorem tickAnswered : Obligations.TickAnswered := by
  unfold Obligations.TickAnswered
  refine fun s hm => ⟨fun hd => ?step, fun hz hd => ?due⟩
  case step =>
    have e : exec .crawlStep s = .next s.takeTick := if_pos (s.isRunning_iff.2 hm)
    obtain ⟨v, taken, hv⟩ : ∃ v : State, s.takeTick = v.needRepaint ∧ v = { s with
        crawl := { s.crawl with
          p := s.crawl.p + 1, tickDue := false
          tape := storeSet TapeEntry.cold s.crawl.tape (s.crawl.p.toNat % 1024)
            { s.tapeAt (s.crawl.p.toNat % 1024) with valid := false } } } := ⟨_, if_pos hd, rfl⟩
    have enabled : v.crawlEnabled = s.crawlEnabled := by rw [hv]; rfl
    have mode : v.control.mode = .running := by rw [hv]; exact hm
    have request : v.crawl.request = s.crawl.request := by rw [hv]
    have port : v.port = s.port := by rw [hv]
    have tape : ∀ k, v.tapeAt k = if k = s.crawl.p.toNat % 1024 then { s.tapeAt k with valid := false } else s.tapeAt k := by
      intro k
      rw [hv]
      refine (State.tapeAt_setTape s (s.crawl.p.toNat % 1024) k _).trans ?_
      split
      next h => rw [h]
      · rfl
    refine ⟨_, e, ?_, fun k => ?_, fun on => ⟨?_, fun hr => ?_, fun hr hp => ?_⟩, fun h => ?_⟩
    · obtain ⟨_, _, _, frame⟩ := v.needRepaint_frame
      rw [taken, frame, hv]
    · rw [taken, State.tapeAt_needRepaint, tape]
    · rw [taken]
      exact State.request_needRepaint (enabled.trans on) mode
    · rw [taken, State.needRepaint_new (enabled.trans on) mode (request.trans hr), State.present_holder]
      exact congrArg (fun p : Arbiter => some (p.holder.getD .crawl)) port
    · rw [taken, State.needRepaint_waiting (enabled.trans on) mode (request.trans hr), if_pos (by rw [port, hp])]
    · rw [taken, State.needRepaint_port, port]
      rw [enabled, request, port]
      exact h
  case due =>
    have e : exec .beaconDue s = .next s.sendBeacon := rfl
    have sent : s.sendBeacon = ({ s with group := { s.group with countdown := s.control.config.interval } } : State).queueBeacon
        s.beaconPayload := by
      refine (if_pos (by simp [State.beaconIsDue, s.isRunning_iff.2 hm, hz])).trans ?_
      rw [State.takeTick_of_not_due hd]
    rw [sent] at e
    refine ⟨_, e, ?_, fun hi => ?_, fun hi => ⟨fun before f after hf h1 h2 => ?_, fun none => ⟨fun room => ?_, fun full => ?_⟩⟩⟩
    · obtain ⟨_, _, _, frame⟩ := State.queueBeacon_frame
        { s with group := { s.group with countdown := s.control.config.interval } } s.beaconPayload
      rw [frame]
    · have kept : State.queueBeacon { s with group := { s.group with countdown := s.control.config.interval } }
          s.beaconPayload = { s with group := { s.group with countdown := s.control.config.interval } } := if_pos hi
      rw [kept]
      exact ⟨rfl, rfl, rfl⟩
    · have replaced : State.queueBeacon { s with group := { s.group with countdown := s.control.config.interval } }
          s.beaconPayload = { s with
            group := { s.group with countdown := s.control.config.interval }
            tx := { s.tx with frames := before ++ { f with payload := s.beaconPayload } :: after } } := by
        refine (if_neg (ne_of_eq_of_ne hi Bool.false_ne_true)).trans ?_
        rw [hf, replaceBeacon_first h1 h2]
      rw [replaced]
      exact ⟨rfl, rfl, rfl⟩
    all_goals
      have chosen : State.queueBeacon { s with group := { s.group with countdown := s.control.config.interval } }
          s.beaconPayload = if s.tx.frames.length < Config.transmitQueueSize then
            State.queueFrame { s with group := { s.group with countdown := s.control.config.interval } } .beacon 63
              s.beaconPayload else { s with group := { s.group with countdown := s.control.config.interval } } := by
        refine (if_neg (ne_of_eq_of_ne hi Bool.false_ne_true)).trans ?_
        rw [replaceBeacon_none none]
      rw [chosen]
    · rw [if_pos room]
      unfold State.queueFrame
      dsimp only
      obtain ⟨_, _, frame⟩ := State.portTake_frame (State.portTake _ .a) .b
      rw [frame]
      obtain ⟨_, _, frame⟩ := State.portTake_frame _ .a
      rw [frame]
      rfl
    · rw [if_neg (Nat.not_lt.2 full)]
      exact ⟨rfl, rfl, rfl⟩

/-! ## The crawl row (R141) -/

theorem cellKey_inj (row : Nat) {x y : Nat} (h : cellKey row x = cellKey row y) : x = y := Nat.add_left_cancel h

/-- The cells that a repaint writes, column by column. -/
theorem repaint_writes (row : Nat) {cells : List Cell} (h : cells.length = 128) :
    ((List.range 128).zip cells).map (fun e => (cellKey row e.1, e.2)) =
      (List.range 128).map (fun x => (cellKey row x, cells.getD x cellBlank)) := by
  refine List.ext_getElem (by simp [h]) fun x hx _ => ?_
  have hx : x < cells.length := by
    simp only [List.length_map, List.length_zip] at hx
    omega
  simp [hx]

/-- While RUNNING, the end of a repaint passes the port on, and presents a further repaint when the repeat mark is
set. -/
theorem State.endRepaint_running (hm : s.control.mode = .running) (hw : ∃ cells row, s.port.decided = .row cells ∧
    s.control.config.crawlRow = some row) : ∃ u v : State, u = { s.applyRepaint.scanned s with
      crawl := { s.crawl with request := false, repeatMark := false } } ∧
    v = u.portPassed (grantOrder s.overlay.request.isSome false s.paint.isSome s.text.isSome) ∧
    s.endRepaint = if s.crawl.repeatMark then
      ({ v with crawl := { v.crawl with request := true } } : State).present .crawl else v := by
  obtain ⟨cells, row, hd, hr⟩ := hw
  have applied : s.applyRepaint = s.setCells (((List.range 128).zip cells).map (fun e => (cellKey row e.1, e.2))) := by
    rw [State.applyRepaint, hd, hr]
  refine ⟨_, _, rfl, rfl, ?_⟩
  have ended : s.endRepaint = (if s.crawl.repeatMark then
      ({ s.applyRepaint.scanned s with crawl := { s.crawl with request := false, repeatMark := false } } : State).release.needRepaint
      else ({ s.applyRepaint.scanned s with
        crawl := { s.crawl with request := false, repeatMark := false } } : State).release).afterUnit := by
    unfold State.endRepaint
    rw [applied]
    rfl
  have passed : ({ s.applyRepaint.scanned s with
      crawl := { s.crawl with request := false, repeatMark := false } } : State).release =
      ({ s.applyRepaint.scanned s with
        crawl := { s.crawl with request := false, repeatMark := false } } : State).portPassed
        (grantOrder s.overlay.request.isSome false s.paint.isSome s.text.isSome) := by
    rw [applied]
    exact State.release_eq_portPassed _ (ne_of_eq_of_ne hm (by decide))
  rw [ended, passed]
  generalize hv : State.portPassed _ _ = v
  have control : v.control = s.control := by
    rw [← hv, State.portPassed_control, applied]
    rfl
  have request : v.crawl.request = false := by
    rw [← hv, ← passed, State.release_crawl]
  have enabled : v.crawlEnabled = true := by
    rw [State.crawlEnabled, control, hr]
    rfl
  split
  · rw [State.needRepaint_new enabled (by rw [control, hm]) request, State.afterUnit_of_ne]
    rw [State.present_control]
    exact ne_of_eq_of_ne (congrArg Control.mode control) (ne_of_eq_of_ne hm (by decide))
  · exact State.afterUnit_of_ne _ (ne_of_eq_of_ne (congrArg Control.mode control) (ne_of_eq_of_ne hm (by decide)))

/-- Settles O44: a grant decides the cells of the row (`State.crawlCell`), and the unit writes them. -/
theorem crawlRowRepainted : Obligations.CrawlRowRepainted := by
  unfold Obligations.CrawlRowRepainted
  refine ⟨fun s => ?granted, fun s row cells hm hr hp hl => ?applied⟩
  case granted =>
    refine ⟨(List.range 128).map s.crawlCell, rfl, by simp, ?_⟩
    rintro x index entry hx rfl rfl
    have cell : ((List.range 128).map s.crawlCell)[x]? = some (s.crawlCell x) := by simp [hx]
    rw [cell, State.crawlCell, Nat.mul_comm 128]
    refine ⟨fun hv hi => ?_, fun h => ?_⟩
    · exact congrArg some (if_pos ⟨hv, hi⟩)
    · refine congrArg some (if_neg fun ⟨hv, hi⟩ => ?_)
      rcases h with h | h
      · cases hv.symm.trans h
      · exact h hi
  case applied =>
    have decided : s.port.decided = .row cells := by rw [hp]
    obtain ⟨u, v, hu, hv, e⟩ := State.endRepaint_running hm ⟨cells, row, decided, hr⟩
    have applied : s.applyRepaint = s.setCells ((List.range 128).map (fun x => (cellKey row x, cells.getD x cellBlank))) := by
      rw [State.applyRepaint, decided, hr, ← repaint_writes row hl]
    have cell : ∀ i, u.cell i = s.applyRepaint.cell i := fun i => by
      rw [hu]
      rfl
    refine ⟨u, v, _, if_pos (by rw [hp]), ?_, ?_, hv, fun h => e.trans (if_neg (by simp [h])), fun h => e.trans (if_pos h),
      fun x c hc => ?_, fun i hi => ?_⟩
    · exact hu ▸ (s.scansOn_scanned _).sameScreen ⟨rfl, rfl, rfl, rfl, rfl, rfl⟩
    · rw [hu, applied]
      rfl
    · obtain ⟨hx, rfl⟩ := List.getElem?_eq_some_iff.1 hc
      rw [cell, applied]
      refine (storeGet_setAll_inj cellBlank (fun i _ j _ => cellKey_inj row) (fun x => cells.getD x cellBlank) _
        (List.mem_range.2 (hl ▸ hx))).trans ?_
      simp [hx]
    · rw [cell, applied]
      refine storeGet_setAll_other _ _ _ _ fun e he => ?_
      obtain ⟨x, hx, rfl⟩ := List.mem_map.1 he
      exact (hi x (List.mem_range.1 hx)).symm

end Sys2Proof.Machine
end

section
/-!
PROOFS. The scan engine: the active start and the drawing of a cell (R109 to R111), and what a frame start does (R108).
-/
namespace Sys2Proof.Machine

variable {s t u : State}

/-! ## The events of the last frame start (R109, log 9) -/

theorem State.deliverLapse_none {p : Nat} (h : (s.peer p).lapseDue = false) : s.deliverLapse p = s :=
  if_neg fun both => by simp [h] at both

theorem State.moveHighlight_none {n : Nat} (h : s.moveDue n = false) : s.moveHighlight n = s :=
  if_neg (by simp [h])

/-- With the events of the last frame start taken, there are none to take. -/
theorem State.takeRaised_settled (h : s.Settled) : s.takeRaised = s := by
  have moves : s.control.mode ≠ .held → (List.range 256).foldl State.moveHighlight s = s := fun hm =>
    List.foldl_fixed' (fun n => State.moveHighlight_none (h.move hm n)) _
  unfold State.takeRaised
  split
  next hr =>
    have hm := s.isRunning_iff.1 hr
    have silences : (List.range 63).foldl State.deliverSilence s = s :=
      List.foldl_fixed' (fun p => State.deliverSilence_none (h.silence hm p)) _
    have lapses : (List.range 63).foldl State.deliverLapse s = s :=
      List.foldl_fixed' (fun p => State.deliverLapse_none (h.lapse hm p)) _
    dsimp only
    rw [silences, lapses, moves (ne_of_eq_of_ne hm (by decide)), State.takeTick_of_not_due (h.tick hm),
      State.sendBeacon_of_not_due (h.beacon hm)]
  · split
    · rfl
    next hm => exact moves hm

/-! ## Drawing (R110) -/

theorem dimmed_components (c : BitVec 12) :
    ((dimmed c).extractLsb' 8 4).toNat = (c.extractLsb' 8 4).toNat / 2 ∧
    ((dimmed c).extractLsb' 4 4).toNat = (c.extractLsb' 4 4).toNat / 2 ∧
    ((dimmed c).extractLsb' 0 4).toNat = (c.extractLsb' 0 4).toNat / 2 := by
  have parts : (dimmed c).extractLsb' 8 4 = c.extractLsb' 8 4 >>> 1 ∧ (dimmed c).extractLsb' 4 4 = c.extractLsb' 4 4 >>> 1 ∧
      (dimmed c).extractLsb' 0 4 = c.extractLsb' 0 4 >>> 1 := by
    unfold dimmed
    generalize c.extractLsb' 8 4 >>> 1 = r
    generalize c.extractLsb' 4 4 >>> 1 = g
    generalize c.extractLsb' 0 4 >>> 1 = b
    refine ⟨?_, ?_, ?_⟩ <;>
    · ext i hi
      simp only [BitVec.getElem_extractLsb', BitVec.getLsbD_append]
      grind
  obtain ⟨red, green, blue⟩ := parts
  rw [red, green, blue]
  simp only [BitVec.toNat_ushiftRight, Nat.shiftRight_one, and_self]

/-- Settles O54: before the active start no event is left to take (`State.takeRaised_settled`); the reading during a unit
is `State.scansOn_scanned`. -/
theorem activeStartDraws : Obligations.ActiveStartDraws := by
  unfold Obligations.ActiveStartDraws
  refine ⟨fun s hs => ?started, fun s row col => ⟨fun hb => if_pos hb, fun c ink paper hb hc hi hp => ?drawn⟩,
    fun s u t ht => ht ▸ ⟨s.scansOn_scanned u, rfl⟩⟩
  case started =>
    have e : exec .activeStart s = .next { s with scan := { s.scan with
        sampled := s.group.phase, frame := [], frameBlank := s.scan.blank, read := 0 } } := by
      simp only [exec, execActiveStart, State.takeRaised_settled hs, goOn]
    exact ⟨_, e, rfl, fun i => if_neg (Nat.not_lt_zero i)⟩
  case drawn =>
    have ink : s.control.config.palette.getD c.fg.toNat 0 = ink := by simp [List.getD, hi]
    have paper : s.control.config.palette.getD c.bg.toNat 0 = paper := by simp [List.getD, hp]
    refine ⟨drawCell s.control.config s.scan.sampled c, (if_neg (by simp [hb])).trans (by rw [hc]), rfl, ?_, fun fg hf => ?_⟩
    · rw [← ink, ← paper]
      rfl
    · have fore : (drawCell s.control.config s.scan.sampled c).fg = if c.attrs.dim then dimmed fg else fg := by
        rw [hf, ← ink, ← paper]
        rfl
      refine ⟨fun hd => fore.trans (if_neg (by simp [hd])), fun hd => ?_, fun hk hn => if_pos ⟨hk, hn⟩,
        fun h => if_neg fun both => ?_⟩
      · rw [fore, if_pos hd]
        exact dimmed_components fg
      · rcases h with h | h
        · simp [h] at both
        · exact absurd both.2 (Nat.not_le.2 h)

end Sys2Proof.Machine
end

section
/-!
PROOFS. A frame start (R108): what the scan engine has read, and what ages.
-/
namespace Sys2Proof.Machine

variable {s t u : State}

/-! ## The unit in progress (R102) -/

theorem State.paintEnded_cells (s : State) (n : Nat) : (s.paintEnded n).store.cells = s.store.cells := by
  unfold State.paintEnded
  dsimp only
  rw [(State.afterUnit_sameScreen _).store, (State.paintTake_sameScreen _).store]
  split <;> simp

theorem State.textEnded_cells (s : State) : s.textEnded.store.cells = s.store.cells := by
  have handed : ∀ u : State, u.textHanded.store.cells = u.store.cells := fun u => by
    unfold State.textHanded
    split
    · rfl
    next job _ =>
      obtain ⟨_, _, _, _, _, _, _, _, _, _, frame⟩ := u.layoutTake_frame job
      rw [frame]
    · rfl
  rw [State.textEnded_eq, (State.afterUnit_sameScreen _).store, handed, State.release_store]

theorem State.overlayEnded_cells (s : State) (op level : Nat) : (s.overlayEnded op level).store.cells = s.store.cells := by
  rw [(s.overlayEnded_sameScreen op level).store]

/-- The row of the unit in progress ends it with the cells that `State.unitApplied` says. -/
theorem State.unit_row (s : State) : ∃ (c : Instr) (u : State), c ∈ [.bindFill, .baseRun, .topRun, .openUnit, .closeUnit,
    .closeAllUnit, .orphanClose, .unwinding, .paintCompletion, .restyleCompletion, .crawlRepaint] ∧ exec c s = .next u ∧
    u.store.cells = s.unitApplied.store.cells := by
  have idle : s.port.holder ≠ some .text → exec .bindFill s = .next s := fun h => if_neg h
  rcases hp : s.port.holder with _ | holder
  · exact ⟨_, _, by simp, idle (by simp [hp]), by simp [State.unitApplied, hp]⟩
  cases holder with
  | paint =>
    rcases ho : s.paint with _ | op
    · exact ⟨_, _, by simp, idle (by simp [hp]), by simp [State.unitApplied, hp, ho]⟩
    cases op with
    | paint n g value source seq =>
      refine ⟨.paintCompletion, _, by simp, if_pos hp, ?_⟩
      simp only [State.endPaint, State.unitApplied, hp, ho, State.paintEnded_cells]
      rfl
    | restyle n g =>
      refine ⟨.restyleCompletion, _, by simp, if_pos hp, ?_⟩
      simp only [State.endRestyle, State.unitApplied, hp, ho, State.paintEnded_cells]
      rfl
  | text =>
    rcases ho : s.text with _ | op
    · exact ⟨.bindFill, _, by simp, if_pos hp, by simp [State.endFill, State.unitApplied, hp, ho]⟩
    cases op with
    | fill place base =>
      refine ⟨.bindFill, _, by simp, if_pos hp, ?_⟩
      simp only [State.endFill, State.unitApplied, hp, ho, State.textEnded_cells]
      rfl
    | base r =>
      refine ⟨.baseRun, _, by simp, if_pos hp, ?_⟩
      simp only [State.endBaseRun, State.unitApplied, hp, ho, State.textEnded_cells]
      rfl
    | top r =>
      refine ⟨.topRun, _, by simp, if_pos hp, ?_⟩
      simp only [State.endTopRun, State.unitApplied, hp, ho, State.textEnded_cells]
      rfl
  | crawl =>
    refine ⟨.crawlRepaint, _, by simp, if_pos hp, ?_⟩
    have repainted : ∀ b : Bool, ∀ v : State, (if b then v.needRepaint else v).store = v.store := fun b v => by
      split
      · exact v.needRepaint_sameScreen.store
      · rfl
    simp only [State.endRepaint, State.unitApplied, hp, (State.afterUnit_sameScreen _).store, repainted, State.release_store]
    rfl
  | overlay =>
    rcases ho : s.overlay.request with _ | op
    · exact ⟨_, _, by simp, idle (by simp [hp]), by simp [State.unitApplied, hp, ho]⟩
    cases op with
    | openLevel op requester =>
      refine ⟨.openUnit, _, by simp, if_pos hp, ?_⟩
      simp only [State.endOpen, State.unitApplied, hp, ho, State.overlayEnded_cells]
      rfl
    | close =>
      refine ⟨.closeUnit, _, by simp, if_pos hp, ?_⟩
      simp only [State.endClose, State.unitApplied, hp, ho, State.overlayEnded_cells]
      rfl
    | closeAll =>
      refine ⟨.closeAllUnit, _, by simp, if_pos hp, ?_⟩
      simp only [State.endCloseAll, State.unitApplied, hp, ho, State.overlayEnded_cells]
      rfl
    | orphan =>
      refine ⟨.orphanClose, _, by simp, if_pos hp, ?_⟩
      simp only [State.endOrphan, State.unitApplied, hp, ho, (State.afterUnit_sameScreen _).store,
        (State.orphanCheck_sameScreen _).store, (State.overlayFreed_sameScreen _).store]
      rfl
    | unwinding =>
      refine ⟨.unwinding, _, by simp, if_pos hp, ?_⟩
      simp only [State.endUnwinding, State.unitApplied, hp, ho, (State.afterUnit_sameScreen _).store,
        (State.overlayFreed_sameScreen _).store]
      rfl

/-- At a frame start the rest of the display frame has been read: what was read stays, and each other cell is one of the
unit's stages (R102, R109; log 15). -/
theorem State.shownCell_scanFrameStart (hs : s.Canonical) (wf : storeWf cellBlank s.unitApplied.store.cells = true)
    {i : Nat} (hi : i < 6144) : (i < s.scan.read → s.scanFrameStart.shownCell i = s.shownCell i) ∧
      (s.scan.read ≤ i → s.scanFrameStart.shownCell i = s.cell i ∨ s.Restores i (s.scanFrameStart.shownCell i) ∨
        s.scanFrameStart.shownCell i = s.unitApplied.cell i) := by
  have stages : ∀ m ∈ s.store.cells :: (State.closeStages s.closing.length s ++ [s.unitApplied.store.cells]),
      storeWf cellBlank m = true := by
    rintro m (_ | ⟨_, hm⟩)
    · exact hs.cells
    · rcases List.mem_append.1 hm with hm | hm
      · exact (State.closing_stage_get hs.cells hm).1
      · exact List.mem_singleton.1 hm ▸ wf
  have read : s.scanFrameStart.shownCell i = storeGet cellBlank
      (s.readOn (State.closeStages s.closing.length s ++ [s.unitApplied.store.cells]) 6144) i := if_pos hi
  refine ⟨fun h => ?_, fun h => ?_⟩
  · rw [read, State.readOn_get s _ _ i stages, if_pos h, State.shownCell, if_pos h]
  · obtain ⟨m, hm, e⟩ := State.readOn_mem s _ _ i stages h hi
    rw [read, e]
    rcases List.mem_cons.1 hm with rfl | hm
    · exact .inl rfl
    · rcases List.mem_append.1 hm with hm | hm
      · exact ((State.closing_stage_get hs.cells hm).2 i).imp id .inl
      · exact .inr (.inr (List.mem_singleton.1 hm ▸ rfl))

/-! ## What ages (R32, R92) -/

theorem Slot.ageHighlight_none {r : Slot} (h : r.highlight.stage = .none) : r.ageHighlight = r := by
  simp [Slot.ageHighlight, Highlight.age, h]

theorem Slot.ageHighlight_running {r : Slot} (h : r.highlight.stage ≠ .none) :
    r.ageHighlight = { r with highlight := { r.highlight with remaining := r.highlight.remaining - 1 } } := by
  simp [Slot.ageHighlight, Highlight.age, h]

theorem State.slot_ageHighlight (h : s.Canonical) (n : Nat) : (s.mapSlots Slot.ageHighlight).slot n = (s.slot n).ageHighlight :=
  State.slot_mapSlots _ _ n (Slot.ageHighlight_none (r := Slot.cold) rfl) h.slots

/-- Settles O52: before the frame start no event is left to take (`State.takeRaised_settled`); the unit in progress is that
of `State.unit_row`; peers age by `State.agePeers_peer` and highlights by `Slot.ageHighlight`. -/
theorem frameStartAges : Obligations.FrameStartAges := by
  unfold Obligations.FrameStartAges
  intro s hs settled interval
  obtain ⟨c, u, hc, he, cells⟩ := s.unit_row
  have wf : storeWf cellBlank s.unitApplied.store.cells = true :=
    cells ▸ ((exec_changes c he).keep (fun _ _ hs h => h.canonical hs) hs).cells
  have unit : ∀ i, u.cell i = s.unitApplied.cell i := fun i => congrArg (storeGet cellBlank · i) cells
  obtain ⟨t, ht⟩ : ∃ t, t = if s.isRunning then ((s.scanFrameStart.agePeers).mapSlots Slot.ageHighlight).tickPhase
       else if s.control.mode = .held then s.scanFrameStart else s.scanFrameStart.mapSlots Slot.ageHighlight := ⟨_, rfl⟩
  have e : exec .frameStart s = .next t := by
    simp only [exec, execFrameStart, State.takeRaised_settled settled, goOn, ht]
  obtain ⟨scan, store⟩ : t.scan = s.scanFrameStart.scan ∧ t.store = s.store := by
    rw [ht]
    (repeat' split) <;> exact ⟨rfl, rfl⟩
  have shown : ∀ i, t.shownCell i = s.scanFrameStart.shownCell i := fun i => by
    rw [State.shownCell, State.cell, scan, store]
    rfl
  have running : s.control.mode = .running → t = ((s.scanFrameStart.agePeers).mapSlots Slot.ageHighlight).tickPhase := fun hm =>
    ht.trans (if_pos (s.isRunning_iff.2 hm))
  have other : s.control.mode ≠ .running → t = if s.control.mode = .held then s.scanFrameStart else
      s.scanFrameStart.mapSlots Slot.ageHighlight := fun hm => ht.trans (if_neg (fun h => hm (s.isRunning_iff.1 h)))
  clear ht
  refine ⟨t, e, ?_, fun i hi h => ?_, ⟨c, u, hc, he, fun i hi hr => ?_⟩, fun hm => ?_, fun hm => ?_, fun hm hn => ?_, fun hm => ?_⟩
  · rw [scan]
    rfl
  · rw [shown]
    have read := State.shownCell_scanFrameStart hs wf hi
    by_cases hr : i < s.scan.read
    · exact read.1 hr
    · have free : s.port.holder = none := h.resolve_left hr
      rw [State.shownCell.eq_def s, if_neg hr]
      rcases read.2 (Nat.not_lt.1 hr) with h | ⟨_, hlv, _⟩ | h
      · exact h
      · simp [State.closing, free] at hlv
      · rw [h]
        simp [State.unitApplied, free]
  · rw [shown, unit]
    exact (State.shownCell_scanFrameStart hs wf hi).2 hr
  · rw [other (ne_of_eq_of_ne hm (by decide)), if_pos hm]
    rfl
  · have fields : t.fields = (s.mapSlots Slot.ageHighlight).fields := by
      by_cases hr : s.control.mode = .running
      · rw [running hr]
        rfl
      · rw [other hr, if_neg hm]
        rfl
    have slot : ∀ n, t.slot n = (s.slot n).ageHighlight := fun n => by
      rw [State.slot, fields]
      exact State.slot_ageHighlight hs n
    refine ⟨by rw [fields]; rfl, fun n => ⟨fun h => ?_, fun h => ?_⟩⟩
    · rw [slot, Slot.ageHighlight_none h]
    · rw [slot, Slot.ageHighlight_running h]
  · rw [other hn, if_neg hm]
    rfl
  · have peer : ∀ p, t.peer p = (s.peer p).age s.staleTime s.control.config.group s.candidateLimit := fun p => by
      rw [running hm]
      exact State.agePeers_peer hs.peers p
    refine ⟨by rw [running hm]; rfl, fun p => ?_, ?_⟩
    · have aged := peer p
      have silence := settled.silence hm p
      have lapse := settled.lapse hm p
      have limit : s.candidateLimit ≤ 765 := by
        unfold State.candidateLimit
        omega
      refine ⟨by rw [aged]; rfl, ?_, fun h => ?_, fun h => ?_⟩
      · rw [aged]
        simp only [PeerEntry.age, lapse, Bool.false_or, Bool.and_eq_true, decide_eq_true_eq, and_assoc]
        refine and_congr_right fun _ => and_congr_right fun _ => ?_
        unfold State.candidateLimit at limit ⊢
        omega
      · have live : (s.peer p).isLive = false := by simp [PeerEntry.isLive, h]
        rw [aged]
        simp [PeerEntry.age, live, silence]
      · have live : (s.peer p).isLive = true := by simp [PeerEntry.isLive, h]
        have stale : s.staleTime = 16 * s.control.config.staleUnits := Nat.mul_comm _ _
        rw [aged, ← stale]
        refine ⟨if_pos live, fun h' => ?_, fun h' => ?_⟩
        · simp [PeerEntry.age, live, h']
        · simp [PeerEntry.age, live, h', silence, h]
    · rw [running hm]
      simp only [State.tickPhase, Bool.and_eq_true, decide_eq_true_eq]
      exact and_congr_left fun _ => Option.isSome_iff_ne_none

end Sys2Proof.Machine
end

section
/-!
PROOFS. Resets (R17 to R19, R54, R89, R104, R124, R142, R151 to R154).
-/
namespace Sys2Proof.Machine

variable {s t u : State}

/-! ## RUNNING entered with no pending value (R78, R154) -/

/-- With no pending value the paint unit takes a restyle or nothing, so that a slot changes in its mark alone. -/
theorem State.slot_paintTake_unpending (h : ∀ n, (s.slot n).pending = none) (n : Nat) :
    s.paintTake.slot n = { s.slot n with restyle := (s.paintTake.slot n).restyle } := by
  have none : s.paintChoice = none := State.paintChoice_none.2 fun m _ => by simp [State.offersPaint, h]
  have marked : ∀ m, (s.takeRestyle m).slot n = { s.slot n with restyle := ((s.takeRestyle m).slot n).restyle } := fun m => by
    have slots : (s.takeRestyle m).fields = (s.setSlot m { s.slot m with restyle := false }).fields := by
      unfold State.takeRestyle State.present
      dsimp only
      split
      · rw [State.grant_restyle rfl]
      · rfl
    have slot : (s.takeRestyle m).slot n = (s.setSlot m { s.slot m with restyle := false }).slot n := by
      rw [State.slot, slots]
      rfl
    rw [slot, State.slot_setSlot]
    split
    next e => rw [e]
    next => rfl
  unfold State.paintTake
  split
  · split
    next m _ => exact marked m
    next =>
      rw [none]
  · rfl

/-- RUNNING entered with no pending value: a slot changes in its mark alone. -/
theorem State.slot_enterRunning_unpending (h : ∀ n, (s.slot n).pending = none) (n : Nat) :
    s.enterRunning.slot n = { s.slot n with restyle := (s.enterRunning.slot n).restyle } := by
  have repaint : ∀ v : State, v.needRepaint.fields = v.fields := fun v => by
    obtain ⟨_, _, _, frame⟩ := v.needRepaint_frame
    rw [frame]
  have elected : s.opened.elect.fields = s.fields := by
    obtain ⟨_, _, frame⟩ := s.opened.elect_frame
    rw [frame]
    rfl
  have takes : ∀ v : State, v.fields = s.fields → v.paintTake.slot n = { s.slot n with restyle := (v.paintTake.slot n).restyle } :=
    fun v hv => by
    have slot : ∀ m, v.slot m = s.slot m := fun m => by rw [State.slot, hv]; rfl
    rw [← slot]
    exact State.slot_paintTake_unpending (fun m => (slot m) ▸ h m) n
  rw [s.enterRunning_eq]
  refine s.opened.elect.inEitherOrder_elim (P := fun v => v.slot n = { s.slot n with restyle := (v.slot n).restyle }) _ _ ?_ ?_
  · exact takes _ ((repaint _).trans elected)
  · have slot : ∀ v : State, v.needRepaint.slot n = v.slot n := fun v => by rw [State.slot, repaint]; rfl
    rw [slot]
    exact takes _ elected

theorem State.repeatMark_needRepaint (h : s.crawl.request = false) :
    s.needRepaint.crawl.repeatMark = s.crawl.repeatMark := by
  unfold State.needRepaint
  split
  · rfl
  · rw [if_pos (by simp [h]), State.present_crawl]

/-- RUNNING entered with no repaint requested: none is marked to be repeated. -/
theorem State.repeatMark_enterRunning (h : s.crawl.request = false) :
    s.enterRunning.crawl.repeatMark = s.crawl.repeatMark := by
  have take : ∀ v : State, v.paintTake.crawl = v.crawl := fun v => by
    obtain ⟨_, _, _, frame⟩ := v.paintTake_frame
    rw [frame]
  have elected : s.opened.elect.crawl = s.crawl := by
    obtain ⟨_, _, frame⟩ := s.opened.elect_frame
    rw [frame]
    rfl
  have repaint : ∀ v : State, v.crawl = s.crawl → v.needRepaint.crawl.repeatMark = s.crawl.repeatMark := fun v hv => by
    rw [State.repeatMark_needRepaint (hv ▸ h), hv]
  rw [s.enterRunning_eq]
  refine s.opened.elect.inEitherOrder_elim (P := fun v => v.crawl.repeatMark = s.crawl.repeatMark) _ _ ?_ ?_
  · rw [take]
    exact repaint _ elected
  · exact repaint _ ((take _).trans elected)

/-! ## A warm reset (R154) -/

theorem Slot.onWarmReset_eq (r : Slot) : r.onWarmReset = { r with
    pending := none
    highlight := { r.highlight with stage := .none, remaining := 0 }
    stale := r.stale || (r.bound && r.shown.isSome)
    restyle := r.bound && r.shown.isSome } := by
  unfold Slot.onWarmReset
  cases r.bound && r.shown.isSome <;> simp

theorem Slot.eq_of_onWarmReset {r x : Slot} (h : x = r.onWarmReset) : x = { r with
    pending := none
    highlight := { r.highlight with stage := .none, remaining := 0 }
    stale := r.stale || (r.bound && r.shown.isSome)
    restyle := x.restyle } := by
  rw [h]
  exact Slot.onWarmReset_eq r

/-- What a warm reset does at its start (R154). -/
theorem State.warmActions_frame (hc : s.Canonical) (hd : s.crawl.tickDue = false) (cause : Cause) (running : Bool) :
    ∃ slots, (∀ n, ¬ s.leftOut n → storeGet Slot.cold slots n = (s.slot n).onWarmReset) ∧
      s.warmActions cause running = { s with
        overlay := { s.overlay with request := if s.port.holder = some .overlay then s.overlay.request else none }
        crawl := { s.crawl with
          request := s.crawl.request && decide (s.port.holder = some .crawl), repeatMark := false }
        paint := if s.port.holder = some .paint then s.paint else none
        text := if s.port.holder = some .text then s.text else none
        hand := .idle
        fields := { s.fields with slots := slots }
        portA := s.portA.stop, portB := s.portB.stop
        frameQueue := []
        tx := { s.tx with frames := [] }
        peers := []
        group := { s.group with timing := .free, reference := 63, countdown := 0 }
        control := { s.control with
          mode := .unwinding
          cause := cause
          clash := false
          clock := if running then .reference else s.control.clock } } := by
  obtain ⟨slots, frame⟩ := s.withdraw.fieldWarmReset_frame
  refine ⟨slots, fun n hn => ?_, ?_⟩
  · have out : ¬ s.withdraw.leftOut n := fun ⟨hp, ho⟩ => hn ⟨hp, by
      have paint : s.withdraw.paint = s.paint := if_pos hp
      rwa [paint] at ho⟩
    have slot := (State.slot_fieldWarmReset (s := s.withdraw) hc.slots n).resolve_left fun h => out h.2
    rw [frame] at slot
    exact slot.1
  · unfold State.warmActions
    rw [State.takeTick_of_not_due hd, frame]
    rfl

/-- A warm reset, as its law says. -/
theorem State.warmReset_warmlyReset (hc : s.Canonical) (hd : s.crawl.tickDue = false) (cause : Cause) (running : Bool) :
    s.WarmlyReset (s.warmReset cause running) cause running := by
  obtain ⟨slots, reset, actions⟩ := State.warmActions_frame hc hd cause running
  generalize hv : s.warmActions cause running = v at actions
  have progress : s.warmReset cause running = v.warmProgress := by rw [← hv]; rfl
  have levels : v.overlay.levels = s.overlay.levels := by rw [actions]
  have holder : v.port.holder = s.port.holder := by rw [actions]
  have slot : ∀ n, ¬ s.leftOut n → v.slot n = (s.slot n).onWarmReset := fun n hn => by
    rw [State.slot, actions]
    exact reset n hn
  by_cases idle : s.overlay.levels = [] ∧ s.port.holder = none
  · have entered : v.warmProgress = v.enterRunning :=
      (if_neg fun h => h.2 (levels.trans idle.1)).trans (if_pos (holder.trans idle.2))
    have free : ∀ n, ¬ s.leftOut n := fun n h => by simp [State.leftOut, idle.2] at h
    have pending : ∀ n, (v.slot n).pending = none := fun n => by
      rw [slot n (free n)]
      rfl
    have kept : ∀ n, v.enterRunning.slot n = { (s.slot n).onWarmReset with restyle := (v.enterRunning.slot n).restyle } :=
      fun n => by rw [← slot n (free n)]; exact State.slot_enterRunning_unpending pending n
    have mark : v.enterRunning.crawl.repeatMark = false := by
      rw [State.repeatMark_enterRunning (by simp [actions, idle.2]), actions]
    obtain ⟨timing, reference, r, m, sl, o, h, k, frame⟩ := v.enterRunning_frame
    rw [progress, entered]
    clear progress entered hv slot pending
    generalize v.enterRunning = w at kept mark frame
    subst frame actions
    exact {
      emptied := ⟨rfl, rfl, rfl⟩
      peers := fun _ => rfl
      control := rfl
      timer := ⟨rfl, rfl⟩
      crawl := ⟨rfl, rfl, mark⟩
      kept := ⟨rfl, rfl, rfl, rfl⟩
      ports := fun lane => by cases lane <;> rfl
      slots := fun n _ => (kept n).trans (by rw [Slot.onWarmReset_eq])
      atOnce := fun _ _ => ⟨rfl, rfl⟩
      unwinds := fun h => absurd idle (by tauto)
      request := fun h => absurd idle.1 h }
  · obtain ⟨r, h, requested, frame⟩ : ∃ r h, (s.overlay.levels ≠ [] → s.port.holder ≠ some .overlay →
        r = some .unwinding ∧ h.holder = some (s.port.holder.getD .overlay)) ∧
        v.warmProgress = { v with overlay := { v.overlay with request := r }, port := h } := by
      unfold State.warmProgress
      split
      next hw =>
        obtain ⟨p, frame⟩ := State.present_frame { v with overlay := { v.overlay with request := some .unwinding } }
          (w := .overlay) (by decide)
        have held := State.present_holder { v with overlay := { v.overlay with request := some .unwinding } } .overlay
        rw [frame] at held ⊢
        exact ⟨some .unwinding, p, fun _ _ => ⟨rfl, held.trans (by rw [holder])⟩, rfl⟩
      next hw =>
        rw [if_neg fun hp => ?_]
        · refine ⟨v.overlay.request, v.port, fun hl hp => ?_, rfl⟩
          refine absurd ⟨?_, levels.symm ▸ hl⟩ hw
          rw [actions]
          exact if_neg hp
        · refine idle ⟨?_, holder ▸ hp⟩
          by_contra hl
          refine hw ⟨?_, levels.symm ▸ hl⟩
          rw [actions]
          exact if_neg (by rw [← holder, hp]; decide)
    rw [progress, frame]
    clear progress frame hv
    subst actions
    exact {
      emptied := ⟨rfl, rfl, rfl⟩
      peers := fun _ => rfl
      control := rfl
      timer := ⟨rfl, rfl⟩
      crawl := ⟨rfl, rfl, rfl⟩
      kept := ⟨rfl, rfl, rfl, rfl⟩
      ports := fun lane => by cases lane <;> rfl
      slots := fun n hn => Slot.eq_of_onWarmReset (slot n hn)
      atOnce := fun hl hp => absurd ⟨hl, hp⟩ idle
      unwinds := fun _ => ⟨rfl, rfl, rfl, fun n hn => congrArg Slot.restyle (slot n hn)⟩
      request := requested }

/-- Settles O57: the row takes the query (`State.reaches.run`) and begins the warm reset. -/
theorem restartBegins : Obligations.RestartBegins := by
  unfold Obligations.RestartBegins
  intro s u f oscillator h hk hf hc hd
  have takes : takesQuery 5 f = true := takesQuery_of_payload hk hf (by decide)
  refine ⟨_, (h.run takes (takeRestart oscillator)).trans (congrArg _ (if_pos (by simp [hf]))), ?_⟩
  exact State.warmReset_warmlyReset hc hd _ _

end Sys2Proof.Machine
end

section
/-!
PROOFS. HELD: how it is entered, and how its end decides the reset (R152, R153).
-/
namespace Sys2Proof.Machine

variable {s t u : State}

/-- The values of a cold reset, as its law says (R153). -/
theorem State.coldValues_coldStart (s : State) : s.coldStart.ColdValues where
  station := rfl
  invalid := ⟨rfl, rfl⟩
  queues := ⟨rfl, rfl⟩
  peers := fun _ => rfl
  counters := fun _ => ⟨rfl, rfl⟩
  group := rfl
  screen := ⟨rfl, fun _ _ => if_pos rfl⟩

/-- HELD is entered (R152): what it drops, and nothing else. -/
theorem State.onlyHeldFrom_held (s : State) (byPower : Bool) (clock : Clock) (cold : Option Cause) :
    s.OnlyHeldFrom { s.enterHeld byPower with
      control := { (s.enterHeld byPower).control with clock := clock, coldCause := cold } } :=
  ⟨⟨rfl, rfl, fun lane => by cases lane <;> rfl, rfl, rfl, rfl, rfl, rfl, rfl, rfl, rfl, rfl⟩,
    rfl, rfl, rfl, rfl, rfl, rfl, rfl⟩

/-- The values of a cold reset are set on what HELD has dropped. -/
theorem State.HeldFrom.coldStart (h : s.HeldFrom t) : s.HeldFrom t.coldStart := by
  obtain ⟨mode, hand, ports, overlay, crawl, paint, text, port, store, fields, p, tape⟩ := h
  refine ⟨mode, rfl, fun lane => ?_, ?_, ?_, ?_, ?_, port, store, fields, p, tape⟩
  · have stopped : t.coldStart.lanePort lane = (t.lanePort lane).stop := by cases lane <;> rfl
    rw [stopped, ports]
    rfl
  · change { t.overlay with request := if t.port.holder = some Writer.overlay then t.overlay.request else none } = _
    rw [port, overlay]
    split_ifs <;> rfl
  · change (t.crawl.request && decide (t.port.holder = some Writer.crawl)) = _
    rw [port, crawl, Bool.and_assoc, Bool.and_self]
  · change (if t.port.holder = some Writer.paint then t.paint else none) = _
    rw [port, paint]
    split_ifs <;> rfl
  · change (if t.port.holder = some Writer.text then t.text else none) = _
    rw [port, text]
    split_ifs <;> rfl

/-- HELD with the values that its entry sets: cold ones for a cold reset of cause POWER, else none (R152). -/
theorem State.HeldFrom.heldValues (h : s.HeldFrom t) : s.HeldFrom t.heldValues := by
  unfold State.heldValues
  split
  · exact h.coldStart
  · exact h

theorem State.heldValues_power (h : s.control.coldCause = some .power) : s.heldValues = s.coldStart := if_pos h

theorem State.heldValues_other (h : s.control.coldCause ≠ some .power) : s.heldValues = s := if_neg h

theorem State.heldValues_control (s : State) : s.heldValues.control.mode = s.control.mode ∧
    s.heldValues.control.heldByPower = s.control.heldByPower ∧ s.heldValues.control.clock = s.control.clock ∧
    s.heldValues.control.coldCause = s.control.coldCause := by
  unfold State.heldValues
  split <;> exact ⟨rfl, rfl, rfl, rfl⟩

/-- A warm reset clears the clash latch and returns the clock to REFERENCE when the reference is running (R154, R158). -/
theorem State.warmReset_clock (s : State) (cause : Cause) (running : Bool) :
    (s.warmReset cause running).control.clash = false ∧
      (s.warmReset cause running).control.clock = if running then .reference else s.control.clock := by
  have withdrawn : s.takeTick.withdraw.fieldWarmReset.control = s.control := by
    obtain ⟨_, frame⟩ := s.takeTick.withdraw.fieldWarmReset_frame
    rw [frame]
    exact s.takeTick_control
  have begun : (s.warmActions cause running).control.clash = false ∧
      (s.warmActions cause running).control.clock = if running then .reference else s.control.clock :=
    ⟨rfl, by rw [← withdrawn]; rfl⟩
  rw [State.warmReset, ← begun.2]
  obtain ⟨mode, cold, progress⟩ : ∃ mode cold, (s.warmActions cause running).warmProgress.control =
      { (s.warmActions cause running).control with mode := mode, coldCause := cold } := by
    unfold State.warmProgress
    split
    · rw [State.present_control]
      exact ⟨_, _, rfl⟩
    · split
      · obtain ⟨_, _, _, _, _, _, _, _, frame⟩ := (s.warmActions cause running).enterRunning_frame
        rw [frame]
        exact ⟨_, _, rfl⟩
      · exact ⟨_, _, rfl⟩
  rw [progress]
  exact ⟨rfl, rfl⟩

/-- Settles O58: HELD is `State.enterHeld` with the values of `State.heldValues`; a cold reset sets those of
`State.coldStart`, a warm one is `State.warmReset_warmlyReset`. -/
theorem resetsDecided : Obligations.ResetsDecided := by
  unfold Obligations.ResetsDecided
  refine ⟨fun s => ?power, fun s hm => ?pin, fun s coldLow oscillator hm => ?ended⟩
  case power =>
    obtain ⟨v, hv⟩ : ∃ v : State, v = { s.enterHeld true with control := { (s.enterHeld true).control with
      clock := .backup, coldCause := some (s.control.coldCause.getD .power) } } := ⟨_, rfl⟩
    have e : exec .powerOn s = .next v.heldValues := by rw [hv]; rfl
    have only : s.OnlyHeldFrom v := by
      rw [hv]
      exact s.onlyHeldFrom_held true _ _
    obtain ⟨-, power, clock, cold⟩ := v.heldValues_control
    refine ⟨_, e, only.1.heldValues, ?_, ?_, ?_, ?_, fun h => ?_, fun h => ?_⟩
    · rw [power, hv]
      rfl
    · rw [clock, hv]
    · rw [State.faultAsserted_iff, clock, hv]
      simp
    · rw [cold, hv]
    · rw [State.heldValues_power (cold ▸ h)]
      exact v.coldValues_coldStart
    · rw [State.heldValues_other (cold ▸ h)]
      exact only
  case pin =>
    have e : exec .resetAssert s = .next (s.enterHeld false).heldValues := if_neg hm
    obtain ⟨-, power, clock, cold⟩ := (s.enterHeld false).heldValues_control
    refine ⟨_, e, (s.onlyHeldFrom_held false s.control.clock s.control.coldCause).1.heldValues, power, clock, cold, fun h => ?_, fun h => ?_⟩
    · rw [State.heldValues_power (s := s.enterHeld false) h]
      exact State.coldValues_coldStart _
    · rw [State.heldValues_other (s := s.enterHeld false) h]
      exact s.onlyHeldFrom_held false s.control.clock s.control.coldCause
  case ended =>
    have warm : s.control.coldCause = none → coldLow = false →
        exec (.heldEnd coldLow oscillator) s = .next (s.warmReset .warmPin oscillator) := fun hc hl => by
      simp [exec, execHeldEnd, hm, hc, hl, goOn]
    have power : s.control.coldCause = some .power →
        exec (.heldEnd coldLow oscillator) s = .next (s.beginLoading .power oscillator) := fun hc => by
      simp [exec, execHeldEnd, hm, hc, goOn]
    have cold : ∀ cause, s.control.coldCause ≠ some .power →
        s.control.coldCause = some cause ∨ s.control.coldCause = none ∧ coldLow = true ∧ cause = .coldPin →
        exec (.heldEnd coldLow oscillator) s = .next (s.coldStart.beginLoading cause oscillator) := fun cause hp h => by
      rcases h with h | ⟨h, hl, rfl⟩
      · cases cause with
        | power => exact absurd h hp
        | _ => simp [exec, execHeldEnd, hm, h, goOn]
      · simp [exec, execHeldEnd, hm, h, hl, goOn]
    by_cases hp : s.control.coldCause = some .power
    · refine ⟨_, power hp, rfl, rfl, fun cause h => ?_, fun h => ?_, fun _ => ⟨rfl, ?_⟩, fun h => absurd hp h, fun h => ?_⟩
      · cases hp.symm.trans h
        exact ⟨rfl, rfl, rfl⟩
      · cases hp.symm.trans h
      · unfold State.beginLoading
        rw [← hp]
      · cases hp.symm.trans h
    by_cases hw : s.control.coldCause = none ∧ coldLow = false
    · obtain ⟨hc, hl⟩ := hw
      have clock := s.warmReset_clock .warmPin oscillator
      refine ⟨_, warm hc hl, clock.1, clock.2, fun cause h => ?_, fun _ h => ?_, fun h => absurd h hp, fun _ h => ?_,
        fun _ _ canonical tick => State.warmReset_warmlyReset canonical tick _ _⟩
      · cases hc.symm.trans h
      · cases hl.symm.trans h
      · exact (h.elim (absurd hc) fun h => by cases hl.symm.trans h)
    obtain ⟨cause, hc⟩ : ∃ cause,
        s.control.coldCause = some cause ∨ s.control.coldCause = none ∧ coldLow = true ∧ cause = .coldPin := by
      rcases hc : s.control.coldCause with _ | cause
      · exact ⟨.coldPin, .inr ⟨rfl, by simpa [hc] using hw, rfl⟩⟩
      · exact ⟨cause, .inl rfl⟩
    refine ⟨_, cold cause hp hc, rfl, rfl, fun other h => ?_, fun h _ => ?_, fun h => absurd h hp,
      fun _ _ => ⟨{ s.coldValues_coldStart with }, rfl, rfl, rfl, rfl, rfl, rfl⟩, fun h hl => absurd ⟨h, hl⟩ hw⟩
    · rcases hc with hc | ⟨hc, -⟩
      · cases hc.symm.trans h
        exact ⟨rfl, rfl, rfl⟩
      · cases hc.symm.trans h
    · rcases hc with hc | ⟨-, -, rfl⟩
      · cases hc.symm.trans h
      · exact ⟨rfl, rfl, rfl⟩

end Sys2Proof.Machine
end

section
/-!
PROOFS. The configuration image is read, the stores are cleared, and RUNNING is entered (R153, R155, R156).
-/
namespace Sys2Proof.Machine

variable {s t u : State}

/-! ## The fields of the image (R156) -/

theorem clampTo_above (m v : Nat) : (clampTo (decide (m < v)) m v).1 = min m v := by
  unfold clampTo
  split <;> simp_all
  omega

theorem clampTo_below (m v : Nat) : (clampTo (decide (v < m)) m v).1 = max m v := by
  unfold clampTo
  split <;> simp_all
  omega

theorem clampTo_empty (v : Nat) : (clampTo (decide (v = 0)) 1 v).1 = max 1 v := by
  cases v <;> simp [clampTo]

/-- The crawl row: none, or a row of the screen. -/
theorem crawlRow_clamped (v : Nat) : (if (clampTo (decide (47 < v) && decide (v ≠ 255)) 47 v).1 = 255 then none
    else some (clampTo (decide (47 < v) && decide (v ≠ 255)) 47 v).1) = if v = 255 then none else some (min 47 v) := by
  by_cases hv : v = 255
  · simp [clampTo, hv]
  · have row : (clampTo (decide (47 < v) && decide (v ≠ 255)) 47 v).1 = min 47 v := by
      rw [decide_eq_true hv, Bool.and_true, clampTo_above]
    rw [row, if_neg hv, if_neg (by omega)]

theorem clampTo_counted (b : Bool) (m v : Nat) : (clampTo b m v).2 = b.toNat := by
  cases b <;> rfl

theorem clampBlink_eq (v : Nat) : clampBlink v = (max 2 (v - v % 2), (decide (v < 2 ∨ v % 2 = 1)).toNat) := by
  unfold clampBlink
  (repeat' split) <;> ext <;> simp [*] <;> omega

theorem clampTileCount_eq (v : Nat) : clampTileCount v = (max 1 (min 8 v), (decide (v = 0 ∨ 8 < v)).toNat) := by
  unfold clampTileCount
  (repeat' split) <;> ext <;> simp [*] <;> omega

theorem clampTilePosition_eq {count : Nat} (h : 1 ≤ count) (v : Nat) :
    clampTilePosition count v = (min (min 7 v) (count - 1), (decide (7 < v ∨ count ≤ v)).toNat) := by
  unfold clampTilePosition
  by_cases hc : min v 7 < count
  · rw [if_pos hc]
    by_cases hv : 7 < v
    · rw [if_pos hv, decide_eq_true (.inl hv)]
      exact Prod.ext (show min v 7 = _ by omega) rfl
    · rw [if_neg hv, decide_eq_false (by omega)]
      exact Prod.ext (show min v 7 = _ by omega) rfl
  · rw [if_neg hc, decide_eq_true (by omega)]
    exact Prod.ext (show count - 1 = _ by omega) rfl

theorem clampCrawlStep_eq (v : Nat) : clampCrawlStep v = (max 1 (min 15 v), (decide (v = 0 ∨ 15 < v)).toNat) := by
  unfold clampCrawlStep
  (repeat' split) <;> ext <;> simp [*] <;> omega

theorem length_filter_eq_sum (l : List Bool) : (l.filter id).length = (l.map Bool.toNat).sum := by
  induction l with
  | nil => rfl
  | cons b l ih => cases b <;> simp [ih, Nat.add_comm]

theorem imageAccepted_iff (img : List Byte) : imageAccepted img = true ↔ byteAt img 0 = 0xC5 ∧
    ((img.take 62).map BitVec.toNat).sum % 65536 = 256 * (byteAt img 62).toNat + (byteAt img 63).toNat := by
  have sum : (be16 (byteAt img 62) (byteAt img 63)).toNat = 256 * (byteAt img 62).toNat + (byteAt img 63).toNat := by
    rw [be16, BitVec.toNat_append, ← Nat.shiftLeft_add_eq_or_of_lt (byteAt img 63).isLt, Nat.shiftLeft_eq, Nat.mul_comm]
  simp [imageAccepted, sum]

/-- Every field that the image gives, clamped into its range, and how many were changed (R156). -/
theorem imageFields_count (img : List Byte) (b : Nat → Nat) (hb : b = fun i => (byteAt img i).toNat) :
    (imageFields img).2 = (([decide (63 < b 1), decide (14 < b 2), decide (1 < b 3),
        decide (b 49 < 2 ∨ b 49 % 2 = 1), decide (b 50 = 0), decide (b 51 < 8),
        decide (47 < b 52 ∧ b 52 ≠ 255), decide (b 54 = 0 ∨ 8 < b 54),
        decide (7 < b 53 ∨ (imageFields img).1.tileCount ≤ b 53), decide (b 55 = 0 ∨ 15 < b 55)] ++
      (List.range 11).map (fun i => decide (15 < b (36 + i)))).filter id).length := by
  have tiles : (imageFields img).1.tileCount = max 1 (min 8 (b 54)) := by
    rw [hb]
    exact congrArg Prod.fst (clampTileCount_eq _)
  have position := clampTilePosition_eq (count := max 1 (min 8 (b 54))) (by omega) (b 53)
  rw [length_filter_eq_sum, tiles]
  subst hb
  simp only [imageFields, clampTo_counted, clampBlink_eq, clampTileCount_eq, clampCrawlStep_eq, position, List.map_append,
    List.map_map, List.sum_append, List.map_cons, List.map_nil, List.sum_cons, List.sum_nil, Function.comp_def,
    Bool.decide_and]
  omega

/-- An image's roles, each at most 15 (R156). -/
theorem imageFields_roles (img : List Byte) (roles : Roles) (h : roles = (imageFields img).1.roles) :
    [roles.up, roles.down, roles.flashUp, roles.flashDown, roles.fade1, roles.fade2, roles.fade3, roles.stale,
      roles.overflow, roles.crawlFg, roles.crawlBg].map BitVec.toNat =
      (List.range 11).map (fun i => min 15 (byteAt img (36 + i)).toNat) := by
  have role : ∀ i, (BitVec.ofNat 4 (clampTo (decide (15 < (byteAt img (36 + i)).toNat)) 15
      (byteAt img (36 + i)).toNat).1).toNat = min 15 (byteAt img (36 + i)).toNat := fun i => by
    rw [clampTo_above, BitVec.toNat_ofNat, Nat.mod_eq_of_lt (by omega)]
  subst h
  simp only [imageFields, List.map_cons, List.map_nil, role]
  rfl

/-! ## RUNNING entered after a cold reset (R153) -/

/-- With no slots there is no work for the paint unit. -/
theorem State.paintTake_noSlots (h : s.fields.slots = []) : s.paintTake = s := by
  have cold : ∀ n, s.slot n = Slot.cold := fun n => by rw [State.slot, h]; rfl
  have restyle : s.restyleChoice = none := State.restyleChoice_none.2 fun n _ => by
    rw [State.offersRestyle, cold]
    rfl
  have paint : s.paintChoice = none := State.paintChoice_none.2 fun n _ => by
    rw [State.offersPaint, cold]
    rfl
  unfold State.paintTake
  split
  · rw [restyle, paint]
  · rfl

/-- RUNNING is entered with no peers and no slots: the election has the own station alone, or none, and a crawl row is
repainted (R131, R141). -/
theorem State.enterRunning_fresh (hp : s.peers = []) (hs : s.fields.slots = []) :
    ∃ u : State, s.enterRunning = u.needRepaint ∧
      u = { s.opened with
        group := { s.opened.group with timing := u.group.timing, reference := u.group.reference }
        freeCount := u.freeCount } ∧
      (s.inhibited = true → u.group.timing = .free ∧ u.group.reference = 63) ∧
      (s.inhibited = false → s.control.config.station < 63 →
        u.group.timing = .leading ∧ u.group.reference = s.control.config.station) := by
  obtain ⟨timing, reference, elected⟩ := s.opened.elect_frame
  have law := s.opened.elect_elected
  rw [elected] at law
  have may := s.mayTransmit_iff
  unfold State.mayTransmit at may
  obtain ⟨none, lowest⟩ := law (fun q => q < 63 ∧ q = s.control.config.station ∧ s.inhibited = false) fun q => by
    have cold : s.peer q = PeerEntry.cold := by rw [State.peer, hp]; rfl
    refine and_congr_right fun hq => ⟨fun ⟨h, hi⟩ => .inr ?_, ?_⟩
    · obtain ⟨hv, -, hc⟩ := may.1 (by simp [hi])
      exact ⟨h, hv, hc⟩
    · rintro (⟨h, -, -⟩ | ⟨h, hv, hc⟩)
      · have h : (s.peer q).painter = true := h
        simp [cold, PeerEntry.cold] at h
      · have h : q = s.control.config.station := h
        exact ⟨h, by simpa using may.2 ⟨hv, by omega, hc⟩⟩
  have noWork : ∀ v : State, v.fields = s.fields → v.paintTake = v := fun v hv => State.paintTake_noSlots (by rw [hv, hs])
  have repaint : ∀ v : State, v.needRepaint.fields = v.fields := fun v => by
    obtain ⟨_, _, _, frame⟩ := v.needRepaint_frame
    rw [frame]
  rw [s.enterRunning_eq, elected]
  refine ⟨{ s.opened with
    group := { s.opened.group with timing := timing, reference := reference }, freeCount := s.freeCount + 1 }, ?_, rfl,
    fun hi => none fun q hq => by simp [hi] at hq, fun hi hq => ?_⟩
  · refine State.inEitherOrder_elim (P := fun v => v = _) _ _ _ ?_ ?_
    · exact noWork _ (repaint _)
    · exact congrArg State.needRepaint (noWork _ rfl)
  · obtain ⟨href, htiming⟩ := lowest s.control.config.station ⟨hq, rfl, hi⟩ fun r hr h => absurd h.2.1 (by omega)
    exact ⟨htiming.trans (if_pos rfl), href⟩

/-- Settles O59: the fields of an accepted image are those of the clamps (`clampTo_above`, `clampTo_below`,
`imageFields_count`), CLEARING is `State.clearAll`, and RUNNING is entered as `State.enterRunning_fresh` says. -/
theorem configurationLoaded : Obligations.ConfigurationLoaded := by
  unfold Obligations.ConfigurationLoaded
  refine ⟨fun s img hl hm => ?loaded, fun s hm hp hs hr ho hf => ?cleared⟩
  case loaded =>
    have e : exec (.loadingComplete img) s = .next { (s.endHeldUnit.validate img).clearAll with
        control := { (s.endHeldUnit.validate img).control with mode := .clearing } } := by
      simp only [exec, execLoadingComplete, hl, hm, ne_eq, not_true, if_false, if_true, goOn]
      rfl
    refine ⟨_, e, rfl, rfl, rfl, rfl, rfl, rfl, rfl, rfl, fun i => storeGet_clearedOwners _ i, rfl, fun h => ?_,
      fun h1 h2 b cfg hb hcfg => ?_⟩
    · have refused : (s.endHeldUnit.validate img).control = { s.endHeldUnit.control with
          config := Configuration.default, valid := false, clamped := 0 } :=
        if_neg fun ha => h ((imageAccepted_iff img).1 ha)
      exact ⟨congrArg Control.valid refused, congrArg Control.config refused, congrArg Control.clamped refused⟩
    · have taken : (s.endHeldUnit.validate img).control = { s.endHeldUnit.control with
          config := (imageFields img).1, valid := true, clamped := (imageFields img).2 } :=
        if_pos ((imageAccepted_iff img).2 ⟨h1, h2⟩)
      have config : cfg = (imageFields img).1 := hcfg.trans (congrArg Control.config taken)
      have tiles : cfg.tileCount = max 1 (min 8 (b 54)) := by
        rw [config, hb]
        exact congrArg Prod.fst (clampTileCount_eq _)
      have count : (s.endHeldUnit.validate img).control.clamped = (imageFields img).2 := congrArg Control.clamped taken
      refine ⟨congrArg Control.valid taken, ?station, ?group, ?rate, ?hold, ?fade, ?blink, ?stale, ?interval, ?row, tiles,
        ?position, ?step, ?palette, ?roles, count.trans (config ▸ imageFields_count img b hb)⟩
      case position =>
        rw [tiles, config, hb]
        simp only [imageFields, clampTileCount_eq]
        rw [clampTilePosition_eq (by omega)]
      all_goals subst hb
      case roles => exact imageFields_roles img _ (congrArg Configuration.roles config)
      all_goals rw [config]
      case station => exact clampTo_above 63 _
      case group => exact clampTo_above 14 _
      case rate =>
        change (if (clampTo (decide (1 < _)) 1 _).1 = 0 then LaneRate.mbit4 else .mbit8) = _
        rw [clampTo_above]
        exact if_congr (by omega) rfl rfl
      case hold => rfl
      case fade => rfl
      case blink => exact congrArg Prod.fst (clampBlink_eq _)
      case stale => exact clampTo_empty _
      case interval => exact clampTo_below 8 _
      case row => exact crawlRow_clamped _
      case step => exact congrArg Prod.fst (clampCrawlStep_eq _)
      case palette =>
        intro i hi
        simp [imageFields, hi]
  case cleared =>
    have e : exec .clearingComplete s = .next s.enterRunning := if_pos hm
    obtain ⟨u, entered, frame, inhibited, leading⟩ := State.enterRunning_fresh hp hs
    have config : u.control = s.opened.control := by rw [frame]
    have enabled : u.crawlEnabled = s.control.config.crawlRow.isSome := by rw [State.crawlEnabled, config]; rfl
    refine ⟨u, _, e.trans (congrArg _ entered), frame, fun h => ?_, fun h => ?_, inhibited, leading⟩
    · exact State.needRepaint_off (by rw [enabled, h]; rfl)
    · rw [State.needRepaint_new (enabled.trans (Option.isSome_iff_ne_none.2 h)) (by rw [config]; rfl)
        (by rw [frame]; exact hr)]
      have free : u.port.holder = none := by
        rw [frame]
        exact hf
      exact State.present_free _ _ free

end Sys2Proof.Machine
end

section
/-!
PROOFS. The formatter: digits and their grouping (R57, R61), the strings of each kind (R60, R62, R66 to R69), and what
fits (R70 to R72).
-/
namespace Sys2Proof.Machine

/-! ## Digits (R57) -/

/-- A digit's glyph, '0' to '9'. -/
def IsDigit (g : Byte) : Prop := 48 ≤ g.toNat ∧ g.toNat ≤ 57

/-- A number read on by one more digit. -/
def readDigit (value : Nat) (g : Byte) : Nat := 10 * value + (g.toNat - 48)

theorem digitGlyph_toNat (n : Nat) : (digitGlyph n).toNat = 48 + n % 10 := by
  rw [digitGlyph, byteOf, BitVec.toNat_ofNat, Nat.mod_eq_of_lt (by omega)]

theorem isDigit_digitGlyph (n : Nat) : IsDigit (digitGlyph n) := by
  unfold IsDigit
  rw [digitGlyph_toNat]
  omega

theorem readDigit_digitGlyph (value n : Nat) : readDigit value (digitGlyph n) = 10 * value + n % 10 := by
  unfold readDigit
  rw [digitGlyph_toNat]
  omega

theorem IsDigit.ne_comma {g : Byte} (h : IsDigit g) : g ≠ gComma := by
  rintro rfl
  exact absurd h.1 (by decide)

theorem digitsOnto_isDigit {fuel n : Nat} {acc : List Byte} (h : ∀ g ∈ acc, IsDigit g) :
    ∀ g ∈ digitsOnto fuel n acc, IsDigit g := by
  induction fuel generalizing n acc with
  | zero => exact h
  | succ fuel ih =>
    have more : ∀ g ∈ digitGlyph n :: acc, IsDigit g := List.forall_mem_cons.2 ⟨isDigit_digitGlyph n, h⟩
    unfold digitsOnto
    split
    · exact more
    · exact ih more

/-- Digits written before others read back as their number, on which the others are read. -/
theorem digitsOnto_read {fuel n : Nat} (h : n < 10 ^ fuel) (acc : List Byte) :
    (digitsOnto fuel n acc).foldl readDigit 0 = acc.foldl readDigit n := by
  induction fuel generalizing n acc with
  | zero =>
    obtain rfl : n = 0 := by simpa using h
    rfl
  | succ fuel ih =>
    unfold digitsOnto
    split
    next hn => rw [List.foldl_cons, readDigit_digitGlyph, Nat.mod_eq_of_lt hn, Nat.mul_zero, Nat.zero_add]
    next hn => rw [ih (by omega), List.foldl_cons, readDigit_digitGlyph, Nat.div_add_mod]

/-- A number but zero is written without a leading zero. -/
theorem digitsOnto_head {fuel n : Nat} (h : n < 10 ^ fuel) (h0 : n ≠ 0) (acc : List Byte) :
    ∃ d, d % 10 ≠ 0 ∧ (digitsOnto fuel n acc).head? = some (digitGlyph d) := by
  induction fuel generalizing n acc with
  | zero => exact absurd (by simpa using h) h0
  | succ fuel ih =>
    unfold digitsOnto
    split
    next hn => exact ⟨n, by omega, rfl⟩
    next hn => exact ih (by omega) (by omega) _

theorem digits_isDigit (n : Nat) : ∀ g ∈ digits n, IsDigit g := digitsOnto_isDigit (by simp)

theorem digits_head {n : Nat} (h : n < 10 ^ 40) (hz : (digits n).head? = some 48) : n = 0 := by
  by_contra h0
  obtain ⟨d, hd, e⟩ := digitsOnto_head h h0 []
  have zero : digitGlyph d = 48 := Option.some_injective _ (e.symm.trans hz)
  have := digitGlyph_toNat d
  rw [zero] at this
  have : (48 : Byte).toNat = 48 := rfl
  omega

theorem fixedDigits_length (len n : Nat) : (fixedDigits len n).length = len := by
  induction len generalizing n with
  | zero => rfl
  | succ len ih => simp [fixedDigits, ih]

theorem fixedDigits_isDigit (len n : Nat) : ∀ g ∈ fixedDigits len n, IsDigit g := by
  induction len generalizing n with
  | zero => simp [fixedDigits]
  | succ len ih =>
    intro g hg
    rcases List.mem_append.1 hg with hg | hg
    · exact ih _ g hg
    · exact List.mem_singleton.1 hg ▸ isDigit_digitGlyph n

theorem fixedDigits_read (len n : Nat) : (fixedDigits len n).foldl readDigit 0 = n % 10 ^ len := by
  induction len generalizing n with
  | zero => simp [fixedDigits, Nat.mod_one]
  | succ len ih =>
    rw [fixedDigits, List.foldl_append, ih, List.foldl_cons, List.foldl_nil, readDigit_digitGlyph, Nat.pow_succ',
      Nat.mod_mul, Nat.add_comm]

/-! ## Grouping (R61) -/

theorem groupFromRight_filter {ds : List Byte} (h : ∀ g ∈ ds, g ≠ gComma) (i : Nat) :
    (groupFromRight ds i).filter (fun g => decide (g ≠ gComma)) = ds := by
  induction ds generalizing i with
  | nil => rfl
  | cons d ds ih =>
    rw [List.forall_mem_cons] at h
    have own : ([d] : List Byte).filter (fun g => decide (g ≠ gComma)) = [d] := by simp [h.1]
    have both : [gComma, d].filter (fun g => decide (g ≠ gComma)) = [d] := by simp [h.1]
    rw [groupFromRight, List.filter_append, ih h.2]
    split
    · rw [both]
      rfl
    · rw [own]
      rfl

/-- A comma stands before each third digit but the first. -/
theorem groupFromRight_length (ds : List Byte) (i : Nat) :
    (groupFromRight ds i).length = ds.length + ((i + ds.length - 1) / 3 - (i - 1) / 3) := by
  induction ds generalizing i with
  | nil => simp [groupFromRight]
  | cons d ds ih =>
    rw [groupFromRight, List.length_append, ih]
    split <;> (simp only [List.length_cons, List.length_nil]; omega)

/-- The digit of place `i` from the right stands at place `i + (i - 1) / 3`, behind its comma when it has one: the commas
stand at each fourth place. -/
theorem groupFromRight_comma {ds : List Byte} (h : ∀ g ∈ ds, g ≠ gComma) (i : Nat) {j : Nat}
    (hj : j < (groupFromRight ds i).length) :
    (groupFromRight ds i)[j]? = some gComma ↔ (i + (i - 1) / 3 + j) % 4 = 3 := by
  induction ds generalizing i j with
  | nil => simp [groupFromRight] at hj
  | cons d ds ih =>
    rw [List.forall_mem_cons] at h
    have own : (some d : Option Byte) ≠ some gComma := by simp [h.1]
    rw [groupFromRight, List.length_append] at hj
    rw [groupFromRight]
    split at hj
    next hi =>
      rw [if_pos hi]
      match j, hj with
      | 0, _ => simp; omega
      | 1, _ => simp [h.1]; omega
      | j + 2, hj =>
        have at' := ih h.2 (i + 1) (j := j) (by simp at hj; omega)
        simp only [List.cons_append, List.nil_append, List.getElem?_cons_succ, at']
        omega
    next hi =>
      rw [if_neg hi]
      match j, hj with
      | 0, _ => simp [h.1]; omega
      | j + 1, hj =>
        have at' := ih h.2 (i + 1) (j := j) (by simp at hj; omega)
        simp only [List.cons_append, List.nil_append, List.getElem?_cons_succ, at']
        omega

/-! ## What fits (R69 to R72) -/

theorem fit_first {w : Nat} {before after : List (List Byte)} {c : List Byte} (h : ∀ x ∈ before, w < x.length)
    (hc : c.length ≤ w) : fit w (before ++ c :: after) = (List.replicate (w - c.length) gSpace ++ c, false) := by
  have found : (before ++ c :: after).find? (fun c => decide (c.length ≤ w)) = some c := by
    rw [List.find?_append, List.find?_eq_none.2 (fun x hx => by simpa using h x hx), List.find?_cons_of_pos (by simpa using hc)]
    rfl
  rw [fit, found]

theorem fit_none {w : Nat} {candidates : List (List Byte)} (h : ∀ x ∈ candidates, w < x.length) :
    fit w candidates = (List.replicate w gHash, true) := by
  rw [fit, List.find?_eq_none.2 (fun x hx => by simpa using h x hx)]

theorem fit_overflow {w : Nat} {candidates : List (List Byte)} (h : (fit w candidates).2 = true) :
    (fit w candidates).1 = List.replicate w gHash := by
  unfold fit at h ⊢
  split at h
  · cases h
  next hn => rfl

theorem fitText_getElem? (glyphs : List Byte) {w i : Nat} (h : i < w) : (fitText w glyphs)[i]? = some (glyphs.getD i gSpace) := by
  unfold fitText
  by_cases hi : i < glyphs.length
  · rw [List.getElem?_append_left (by simp [hi, h])]
    simp [hi, h]
  · have hi : glyphs.length ≤ i := Nat.not_lt.1 hi
    have cut : (glyphs.take w).length = glyphs.length := by rw [List.length_take]; omega
    rw [List.getElem?_append_right (by omega), cut, List.getElem?_replicate, if_pos (by omega), List.getD_eq_default _ _ hi]

/-! ## The strings of each kind (R60, R62, R66 to R69) -/

theorem numeratorDigits_eq {k : Nat} (h1 : 1 ≤ k) (h8 : k ≤ 8) :
    numeratorDigits k = if k ≤ 3 then 1 else if k ≤ 6 then 2 else 3 := by
  interval_cases k <;> rfl

/-- The strings tried for a SIZE value, stage by stage (R69). -/
theorem sizeStrings_eq (group : Bool) (n : Nat) :
    (sizeStages n).flatMap (fun st => bothForms group (fun c => wholeDigits c st.1 ++ st.2)) =
      ([(n, []), (n / 1000, [75]), (n / 1000000, [77]), (n / 1000000000, [66])].filter
        (fun e => decide (e.2 = []) || decide (1 ≤ e.1))).flatMap (fun e =>
          (if group then [grouped (digits e.1) ++ e.2] else []) ++ [digits e.1 ++ e.2]) := by
  have stages : sizeStages n = [(n, []), (n / 1000, [75]), (n / 1000000, [77]), (n / 1000000000, [66])].filter
      (fun e => decide (e.2 = []) || decide (1 ≤ e.1)) := by
    rw [List.filter_cons_of_pos (by simp)]
    refine congrArg (List.cons (n, [])) (List.filter_congr fun e he => ?_)
    have suffix : e.2 ≠ [] := by
      rintro h
      simp [h, Prod.ext_iff] at he
    simp [suffix]
  rw [stages]
  cases group <;> rfl

/-- A grouped and a plain form: the first that fits (R71). -/
theorem fit_bothForms (w : Nat) (group : Bool) (build : Bool → List Byte) :
    (group = true → (build true).length ≤ w → fit w (bothForms group build) =
      (List.replicate (w - (build true).length) gSpace ++ build true, false)) ∧
    (group = false ∨ w < (build true).length →
      ((build false).length ≤ w → fit w (bothForms group build) =
        (List.replicate (w - (build false).length) gSpace ++ build false, false)) ∧
      (w < (build false).length → (fit w (bothForms group build)).2 = true)) := by
  refine ⟨fun hg h => ?_, fun hg => ⟨fun h => ?_, fun h => ?_⟩⟩
  · subst hg
    exact fit_first (before := []) (by simp) h
  · cases group with
    | false => exact fit_first (before := []) (by simp) h
    | true => exact fit_first (before := [build true]) (by simpa using hg) h
  · rw [fit_none]
    cases group with
    | false => simpa [bothForms] using h
    | true => simpa [bothForms] using ⟨by simpa using hg, h⟩

/-- Settles O51: what fits is `fit_first` and `fit_none`, the digits are those of `digitsOnto` and `fixedDigits`, and the
commas those of `groupFromRight`. -/
theorem formatterFits : Obligations.FormatterFits := by
  unfold Obligations.FormatterFits
  refine ⟨fun fmt w v f hf => ?fits, fun d m comma whole places hw hp => ?decimal,
    fun k s units parts whole left half comma v h1 h8 hu hp hw hl => ?fraction,
    fun len n => ⟨fixedDigits_length len n, fixedDigits_isDigit len n, fixedDigits_read len n⟩, fun n hn => ?digits⟩
  case fits =>
    subst hf
    refine ⟨formatValue_length fmt w v, fun h => ?_, ?_, ?_⟩
    · cases v with
      | numeric scale raw => exact fit_overflow h
      | text glyphs => cases h
    · rintro glyphs rfl
      exact ⟨rfl, rfl, fun i hi => fitText_getElem? glyphs hi⟩
    · rintro scale raw rfl
      refine ⟨by simp [formatValue], fun build hb => ?_, fun n tried hk hn ht => ?_⟩
      · have strings : candidateStrings fmt scale raw.toInt = bothForms fmt.group build := by
          rcases hb with ⟨hk, rfl⟩ | ⟨hk, rfl⟩ | ⟨hk, rfl⟩ <;> rw [candidateStrings, hk]
        have forms := fit_bothForms w fmt.group build
        rw [← strings] at forms
        obtain ⟨hgrouped, hplain⟩ := forms
        refine ⟨fun hg h => ?_, fun hg => ⟨fun h => ?_, (hplain hg).2⟩⟩
        · have e := hgrouped hg h
          exact ⟨congrArg Prod.snd e, congrArg Prod.fst e⟩
        · have e := (hplain hg).1 h
          exact ⟨congrArg Prod.snd e, congrArg Prod.fst e⟩
      · have strings : candidateStrings fmt scale raw.toInt = tried := by
          rw [candidateStrings, hk, ht, hn]
          exact sizeStrings_eq _ _
        refine ⟨fun before taken after hsplit hlong hshort => ?_, fun hlong => ?_⟩
        · have e := fit_first (after := after) hlong hshort
          rw [← hsplit, ← strings] at e
          exact ⟨congrArg Prod.snd e, congrArg Prod.fst e⟩
        · have e := fit_none hlong
          rw [← strings] at e
          exact congrArg Prod.snd e
  case decimal =>
    subst hw hp
    have sign : signGlyphs false m = if m < 0 then [45] else [] := by simp [signGlyphs, gMinus]
    have signed : signGlyphs true m = if m < 0 then [45] else if 0 < m then [43] else [] := by
      simp [signGlyphs, gMinus, gPlus]
    exact ⟨by rw [← sign]; rfl, by rw [← signed]; rfl⟩
  case fraction =>
    have carried : fractionParts k half v s = (whole, left) := by
      simp only [fractionParts, ← hu, ← hp]
      rw [hw, hl]
      split <;> rfl
    rw [fractionString, carried, numeratorDigits_eq h1 h8]
    have sign : (v < 0 ∧ ¬(whole = 0 ∧ left = 0)) ↔ (v < 0 ∧ (whole ≠ 0 ∨ left ≠ 0)) := by
      rw [not_and_or]
    simp only [sign]
    rfl
  case digits =>
    have plain : ∀ g ∈ (digits n).reverse, g ≠ gComma := fun g hg =>
      (digits_isDigit n g (List.mem_reverse.1 hg)).ne_comma
    refine ⟨digits_isDigit n, digitsOnto_read hn [], fun h => ?_, ?_, ?_, fun i hi => ?_⟩
    · obtain rfl := digits_head hn h
      exact ⟨rfl, rfl⟩
    · rw [grouped, List.filter_reverse]
      exact (congrArg List.reverse (groupFromRight_filter plain 0)).trans (List.reverse_reverse _)
    · rw [grouped, List.length_reverse, groupFromRight_length, List.length_reverse]
      simp
    · have reversed : (grouped (digits n)).reverse = groupFromRight (digits n).reverse 0 := List.reverse_reverse _
      rw [reversed]
      refine (groupFromRight_comma plain 0 ?_).trans (by simp)
      rw [← reversed, List.length_reverse]
      exact hi

end Sys2Proof.Machine
end
